-- ==== Sys2Proof/Word.lean ====
section
/-! DEFINITION. The words of the part: bytes of a port, sequence numbers, audio samples, packet type codes. -/

namespace Sys2Proof

/-- A byte of a control port. -/
abbrev Byte := BitVec 8

/-- A sequence number: 32 bits, wrapping from 4,294,967,295 to 0 (00_scope.md section 5, R45). -/
abbrev Seq := BitVec 32

/-- An audio sample: 24 bits, signed (1.1). -/
abbrev Sample := BitVec 24

/-- The 16-bit type code of a packet (3.3). -/
abbrev PacketType := BitVec 16

/-- A page number of the Frame Store, 0 to 65,535 (R28). -/
abbrev PageNo := Nat

end Sys2Proof
end

