-- ==== Sys2Proof/Config.lean ====
section
/-! DEFINITION. The figures the manual fixes for the part as a whole. The manual states every result, so there is no
free value here (NOTES.md, Assumptions). -/

namespace Sys2Proof.Config

/-- Pages in the pool (R28). -/
def poolPages : Nat := 65536

/-- 64-bit words in a page (R28). -/
def wordsPerPage : Nat := 32768

/-- The vendor code of the IDENTIFY reply (R181). -/
def vendorCode : Nat := 0x0C4A

/-- The part code of the IDENTIFY reply (R181). -/
def partCode : Nat := 0x0D44

/-- The silicon revision of the IDENTIFY reply (R181). -/
def siliconRevision : Nat := 3

end Sys2Proof.Config
end

