-- ==== Sys2Proof/Syntax.lean ====
section
/-! DEFINITION. The commands of the part: one constructor of `Instr` for each row of spec/opcode_table.json.
The executor's rows carry no operand: their request stands in a port's inbound queue (R169, R170; log 1). -/

namespace Sys2Proof

/-- The two control ports (section 9). -/
inductive Port where
  | a | b
deriving DecidableEq, Repr

/-- The other control port. -/
def Port.other : Port → Port
  | .a => .b
  | .b => .a

/-- The four lanes (section 1). -/
inductive Lane where
  | l1 | l2 | l3 | l4
deriving DecidableEq, Repr

/-- The raster that an arriving frame carries on its link (R50): none, a raster of a class, or another size. -/
inductive Raster where
  | noVideo | hd720 | hd1080 | otherSize
deriving DecidableEq, Repr

/-- What the input link has delivered of a frame when its arrival completes, or when it is cut short (R46, R47).
`audio` lists the samples of each link channel in channel order, `none` for a channel the link did not deliver;
`picture` names the content of the raster; `whole` says that the whole raster was delivered; `audioPageFirst` is the
order taken where a black write and the audio/packet page's write complete at the same moment (R40). -/
structure Delivery where
  audio : List (Option (List Sample))
  picture : Nat
  whole : Bool
  audioPageFirst : Bool
deriving DecidableEq, Repr

/-- The commands, in the order of spec/opcode_table.json. `closed` is an input line's electrical level (a closed
contact or high level); `intakeFirst` says that Frame Intake's work at a tick is taken before Playout's (R64);
`interval` is the rate whose frame interval has passed since the previous reference pulse, if any (R89). -/
inductive Instr where
  | powerUp (ratesel : Bool)
  | resetN (ratesel : Bool)
  | receiveByte (port : Port) (byte : Byte) (stopError : Bool)
  | gapExpiry (port : Port)
  | unknownMessage
  | identify
  | unitStatus
  | restart
  | restartEffect
  | takeControl
  | setTakeover
  | setNotices
  | storeStatus
  | storeClearCounts
  | storeInject
  | pageWriteComplete (lane : Lane)
  | panelLockOn
  | panelLockOff
  | panelBindIn
  | panelBindOut
  | panelDrive
  | panelStatus
  | panelSample (line : Fin 16) (closed : Bool)
  | panelEdge (line : Fin 16) (closed : Bool)
  | laneConfigure
  | laneRelease
  | laneTiming
  | laneGovernor
  | laneRoutes
  | laneWatch
  | laneCoverFill
  | laneSplice
  | laneEnter
  | laneExitGentle
  | laneExitNow
  | laneDump
  | laneMark
  | laneCutToMark
  | laneCoverOn
  | laneCoverOff
  | laneLink
  | laneUnlink
  | laneStatus
  | arrivalStart (lane : Lane) (raster : Raster) (cutShort : Delivery)
  | packetArrival (lane : Lane) (type : PacketType) (payload : List Byte)
  | arrivalCompletion (lane : Lane) (delivery : Delivery)
  | laneTick (lane : Lane) (intakeFirst : Bool)
  | inputLossDeclared (lane : Lane) (intakeFirst : Bool)
  | governorForce (lane : Lane) (intakeFirst : Bool)
  | referencePulse (interval : Option (Fin 8))
  | referenceLost
  | transmitReply (port : Port)
  | transmitNotice (port : Port)
deriving DecidableEq, Repr

end Sys2Proof
end

