-- ==== Sys2Proof/Machine/State.lean ====
section
/-! DEFINITION. The state of the part as plain data, why a step can stop, and the state after reset.
A lane in OFF has no body: it has no format, budget, frames or settings (R4, R17; log 9). -/

namespace Sys2Proof.Machine

/-- One value for each lane. -/
structure PerLane (α : Type) where
  l1 : α
  l2 : α
  l3 : α
  l4 : α
deriving DecidableEq, Repr

/-- The value of a lane. -/
def PerLane.get {α : Type} (v : PerLane α) : Lane → α
  | .l1 => v.l1
  | .l2 => v.l2
  | .l3 => v.l3
  | .l4 => v.l4

/-- The values with one lane's replaced. -/
def PerLane.set {α : Type} (v : PerLane α) (l : Lane) (x : α) : PerLane α :=
  match l with
  | .l1 => { v with l1 := x }
  | .l2 => { v with l2 := x }
  | .l3 => { v with l3 := x }
  | .l4 => { v with l4 := x }

/-- One value for each control port. -/
structure PerPort (α : Type) where
  a : α
  b : α
deriving DecidableEq, Repr

/-- The value of a port. -/
def PerPort.get {α : Type} (v : PerPort α) : Port → α
  | .a => v.a
  | .b => v.b

/-- The values with one port's replaced. -/
def PerPort.set {α : Type} (v : PerPort α) (p : Port) (x : α) : PerPort α :=
  match p with
  | .a => { v with a := x }
  | .b => { v with b := x }

/-! ### The Frame Store (02_the_frame_store.md) -/

/-- A run of consecutive free pages `first .. first + more` in the free page list (R29). -/
structure Run where
  first : PageNo
  more : Nat
deriving DecidableEq, Repr

/-- The size of an injected error (R39). -/
inductive ErrSize where
  | single | double
deriving DecidableEq, Repr

/-- The field an injected error falls in (R39). -/
inductive ErrField where
  | data | check
deriving DecidableEq, Repr

/-- An error in a stored word, and what a set injection arm records (R39, R40). -/
structure WordErr where
  size : ErrSize
  field : ErrField
deriving DecidableEq, Repr

/-- One bank's counters, 16 bits each and saturating (R38), and its injection arm (R39). -/
structure Bank where
  correctedData : Nat
  correctedCheck : Nat
  uncorrectable : Nat
  arm : Option WordErr
deriving DecidableEq, Repr

/-- The Frame Store: the free page list as runs, budgets and in-use counts, the eight banks, and the words of the pool
that hold an error, as (word address, error) with addresses strictly rising (R28 to R40). -/
structure Store where
  free : List Run
  budget : PerLane Nat
  inUse : PerLane Nat
  banks : Vector Bank 8
  errs : List (Nat × WordErr)
deriving DecidableEq, Repr

/-! ### Lanes (01_lanes_and_their_states.md) -/

/-- The video classes (1.1); `audioOnly` is the class NONE. -/
inductive VideoClass where
  | audioOnly | hd720 | hd1080
deriving DecidableEq, Repr

/-- The audio channel counts (R1). -/
inductive ChannelCount where
  | c2 | c4 | c8 | c16
deriving DecidableEq, Repr

/-- A lane's format (R1): rate code, video class, audio channel count. -/
structure Format where
  rate : Fin 8
  vclass : VideoClass
  channels : ChannelCount
deriving DecidableEq, Repr

/-- The states of a lane that is not OFF (1.2). -/
inductive Mode where
  | pass | build | onTarget | trim | drain
deriving DecidableEq, Repr

/-- Why a lane's state changed (R15). -/
inductive Cause where
  | message | panel | governor | leader | unlinked | restarted
deriving DecidableEq, Repr

/-- A setting as given in milliseconds and as applied in frames (1.3). -/
structure Setting where
  ms : Nat
  frames : Nat
deriving DecidableEq, Repr

/-- The timing settings (R18): the target, unset or set; the dump size, where 0 ms is the whole line; the cover lead. -/
structure Timing where
  target : Option Setting
  dump : Setting
  lead : Setting
deriving DecidableEq, Repr

/-- What a follower holds of its link (1.4): its leader, its sequence offset (R24), its pending-action count (R124), and
whether the leader has assigned a seq since the link (R150; log 26). -/
structure FollowerLink where
  leader : Lane
  off : Seq
  pending : Int
  leaderMoved : Bool
deriving DecidableEq, Repr

/-- A lane's counters (R5), 16 bits each and saturating. -/
structure LaneCounters where
  underrun : Nat
  overflow : Nat
  slip : Nat
  damaged : Nat
  malformed : Nat
  formatMismatch : Nat
  ancDropped : Nat
  ancLost : Nat
  carryLost : Nat
  linkSlip : Nat
deriving DecidableEq, Repr

/-! ### Packets and frames (03_frame_intake.md, 04_the_delay_line.md) -/

/-- The packet classes (3.3). -/
inductive PacketClass where
  | live | delay | carry | drop
deriving DecidableEq, Repr

/-- How a packet entered the lane's stream (R80). -/
inductive PacketSource where
  | live | carry | splice
deriving DecidableEq, Repr

/-- An entry of a packet list or of a carried prefix (R80). -/
structure Packet where
  source : PacketSource
  type : PacketType
  payload : List Byte
deriving DecidableEq, Repr

/-- An own packet of a frame: `carry` for class CARRY, otherwise DELAY (R55). -/
structure OwnPacket where
  carry : Bool
  type : PacketType
  payload : List Byte
deriving DecidableEq, Repr

/-- The content of a frame's video pages: black, or the picture received (R50; log 5). -/
inductive Picture where
  | black
  | received (picture : Nat)
deriving DecidableEq, Repr

/-- A record's origin (R69). -/
inductive Origin where
  | received | fill
deriving DecidableEq, Repr

/-- A record's audio state (R49). -/
inductive AudioState where
  | normal | malformed
deriving DecidableEq, Repr

/-- A record's damage (R69). -/
inductive Damage where
  | video | audio | both
deriving DecidableEq, Repr

/-- A record of the delay line (R69), with what its pages hold (`picture`, `audio`; log 5) and the carry store's copies
of its carry packets (`carryCopy`, R70). -/
structure Record where
  seq : Seq
  origin : Origin
  pages : List PageNo
  samples : Nat
  audioState : AudioState
  level : Nat
  covered : Bool
  carriedPrefix : List Packet
  own : List OwnPacket
  damage : Option Damage
  picture : Picture
  audio : List (List Sample)
  carryCopy : List Packet
deriving DecidableEq, Repr

/-- The in-arrival frame (3.1), with the carry store's copies of its CARRY packets (R70), the raster it carries, and how
many of its video pages have completed their writes (R35; log 10). -/
structure InArrival where
  seq : Seq
  pages : List PageNo
  covered : Bool
  discard : Bool
  ticksSeen : Nat
  accepted : Nat
  own : List OwnPacket
  carryCopy : List Packet
  raster : Raster
  written : Nat
deriving DecidableEq, Repr

/-- A route table entry (R54). -/
structure RouteEntry where
  low : PacketType
  high : PacketType
  cls : PacketClass
deriving DecidableEq, Repr

/-- The actions of a watch entry (R57). -/
inductive WatchAction where
  | mark | coverOn | coverOff | notify
deriving DecidableEq, Repr

/-- A watch list entry (R57): the match bytes are the n that count. -/
structure WatchEntry where
  type : PacketType
  bytes : List Byte
  action : WatchAction
deriving DecidableEq, Repr

/-- Frame Intake of a lane (03): RECEIVING while `arrival` is present, WAITING otherwise. -/
structure Intake where
  arrival : Option InArrival
  nextSeq : Seq
  discardThrough : Option Seq
  ticksSince : Nat
  owed : Nat
  loss : Bool
  routes : List RouteEntry
  defaultClass : PacketClass
  watch : List WatchEntry
deriving DecidableEq, Repr

/-- Why a mark's frame is gone (R73). -/
inductive GoneReason where
  | aired | removed
deriving DecidableEq, Repr

/-- Where a mark's frame is (R73). -/
inductive Standing where
  | pending | arriving | held
  | gone (reason : GoneReason)
deriving DecidableEq, Repr

/-- A present mark (R73). -/
structure Mark where
  seq : Seq
  standing : Standing
deriving DecidableEq, Repr

/-- The cover sources (4.3). -/
inductive CoverSource where
  | control | panel | watch | leader
deriving DecidableEq, Repr

/-- A lane's cover source set (R76). -/
structure CoverSet where
  control : Bool
  panel : Bool
  watch : Bool
  leader : Bool
deriving DecidableEq, Repr

/-- The Delay Line of a lane (04): the records head first, the mark, the cover source set, the carried-packet list and
the departure packet list. -/
structure DelayLine where
  records : List Record
  mark : Option Mark
  sources : CoverSet
  carried : List Packet
  departing : List Packet
deriving DecidableEq, Repr

/-- The kind of cover fill (R103). -/
inductive FillKind where
  | silence | tone
deriving DecidableEq, Repr

/-- The cover fill settings (R103). -/
structure CoverFill where
  kind : FillKind
  amplitude : Nat
  mask : BitVec 16
deriving DecidableEq, Repr

/-- What an output link carries from one tick to the next (R109); `video` is absent on a lane of class NONE. -/
structure Emitted where
  video : Option Picture
  audio : List (List Sample)
  packets : List (PacketType × List Byte)
deriving DecidableEq, Repr

/-- Playout of a lane (05); `output` absent is idle. -/
structure Playout where
  phase : Nat
  hold : Option Record
  lastBlock : Option (List (List Sample))
  prevLevel : Nat
  fillRun : Bool
  tonePhase : Nat
  quietRun : Nat
  depth : Nat
  output : Option Emitted
  fill : CoverFill
deriving DecidableEq, Repr

/-- The governor's settings (R122). -/
structure GovSettings where
  threshold : Nat
  mask : BitVec 16
  q : Nat
  s : Nat
  f : Nat
  e : Nat
deriving DecidableEq, Repr

/-- The governor's state (06); `dev` is the deviation computed at the most recent tick and `ticked` says that the lane
has ticked since its last configure (R111, R115; logs 13, 32). A follower's pending count stands in its link. -/
structure GovState where
  engaged : Bool
  since : Nat
  inserts : Nat
  skips : Nat
  dev : Int
  ticked : Bool
deriving DecidableEq, Repr

/-- The splice setting (R132). -/
structure Splice where
  enabled : Bool
  type : PacketType
deriving DecidableEq, Repr

/-- A configured lane. `maxH` is M (R2); the budget stands in the Frame Store. -/
structure LaneBody where
  fmt : Format
  maxH : Nat
  mode : Mode
  link : Option FollowerLink
  timing : Timing
  govSet : GovSettings
  gov : GovState
  splice : Splice
  intake : Intake
  dl : DelayLine
  play : Playout
deriving DecidableEq, Repr

/-- A lane: its counters, which outlive a release (R14), and its body, absent in OFF (R4). -/
structure LaneSlot where
  counters : LaneCounters
  body : Option LaneBody
deriving DecidableEq, Repr

/-! ### The Tick Generator (R89) -/

/-- The Tick Generator: LOCKED to a reference of a rate, or FREE; and whether a reference pulse has been seen since the
last reset (log 23). -/
structure TickGen where
  locked : Option (Fin 8)
  pulseSeen : Bool
deriving DecidableEq, Repr

/-! ### The Panel Line Unit (08_panel_lines.md) -/

/-- The functions of an input line (R153). -/
inductive InFunc where
  | unbound | dump | cover | mark | cutToMark | enter | exit
deriving DecidableEq, Repr

/-- An input line (R152, R153): binding, polarity, filter length, filtered level, filter count. -/
structure InLine where
  func : InFunc
  mask : BitVec 4
  inverted : Bool
  length : Nat
  level : Bool
  count : Nat
deriving DecidableEq, Repr

/-- The functions of an output line (R160). -/
inductive OutFunc where
  | unbound | dumpReady | inDelay | building | coverOn | inputLost | portAControls | panelLocked
deriving DecidableEq, Repr

/-- An output line (R160, R161); lane 0 is absent. -/
structure OutLine where
  func : OutFunc
  lane : Option Lane
  inverted : Bool
  manual : Bool
  forceEnable : Bool
  forceValue : Bool
deriving DecidableEq, Repr

/-- The identity of an input group (R153). -/
structure GroupId where
  func : InFunc
  mask : BitVec 4
deriving DecidableEq, Repr

/-- The Panel Line Unit: lines 1..16 at indices 0..15, the FIRED groups, the lockout flag. -/
structure Panel where
  inputs : Vector InLine 16
  outputs : Vector OutLine 16
  fired : List GroupId
  lockout : Bool
deriving DecidableEq, Repr

/-! ### The Control Link Unit (09_the_control_link.md) -/

/-- A checked request in an inbound queue (R167). -/
structure Request where
  tag : Byte
  code : Byte
  body : List Byte
deriving DecidableEq, Repr

/-- The result codes (10.3). -/
inductive Result where
  | ok | clamped | partialCut | markAired | noMark | noTarget | notDelaying | laneActive | linked | linkRefused
  | notController | takeoverLocked | noPages | busy | badArgument | badLength | unknownMessage
deriving DecidableEq, Repr

/-- A reply waiting in a reply queue (R170); the overflow-seen flag is added when the transmitter takes it (R171). -/
structure Reply where
  tag : Byte
  code : Byte
  result : Result
  isController : Bool
  body : List Byte
deriving DecidableEq, Repr

/-- The receiver of a port (R165), with the bytes received so far of the frame in progress. -/
inductive Receiver where
  | hunting
  | length
  | content (len : Byte) (got : List Byte)
  | check (len : Byte) (got : List Byte) (first : Option Byte)
deriving DecidableEq, Repr

/-- The cut kinds (R132). -/
inductive CutKind where
  | dump | mark | exit
deriving DecidableEq, Repr

/-- A notice's kind with its detail (R175, R181). A lane state of `none` is OFF. -/
inductive Detail where
  | controlLost (taker : Port)
  | reference (back : Bool)
  | laneState (state : Option Mode) (cause : Cause)
  | dumpDone (kind : CutKind) (frames : Nat) (mapped : Bool)
  | input (back : Bool)
  | damaged (seq : Seq) (damage : Damage)
  | underrun (count : Nat)
  | overflow (seq : Seq)
  | watchHit (entry : Nat) (seq : Seq)
  | carryLost (departure : Bool) (dropped : Nat) (type : PacketType)
  | linkSlip (leader : Lane) (skip : Bool)
  | panelEvent (line : Fin 16) (func : InFunc) (mask : BitVec 4)
  | storeError (bank : Fin 8)
deriving DecidableEq, Repr

/-- A pending notice entry (R175): lane `none` is the unit. -/
structure NoticeEntry where
  lane : Option Lane
  detail : Detail
  count : Nat
deriving DecidableEq, Repr

/-- A notice kind's mask and class on a port (R176). -/
structure KindSetting where
  enabled : Bool
  high : Bool
deriving DecidableEq, Repr

/-- A control port. `kinds` follows the default order of 9.4; `notices` is the pending set, kept in the order of kind and
lane; `onLine` is the frame the transmitter took last (R171; log 16). -/
structure PortState where
  rx : Receiver
  inbound : List Request
  replies : List Reply
  overflowSeen : Bool
  kinds : Vector KindSetting 13
  notices : List NoticeEntry
  gapError : Nat
  crcError : Nat
  frameError : Nat
  overflowDiscard : Nat
  onLine : Option (List Byte)
deriving DecidableEq, Repr

/-- The line rates (R164). -/
inductive LineRate where
  | baud38400 | baud115200
deriving DecidableEq, Repr

/-- The Control Link Unit (section 9). `controller` is the port that holds the CONTROLLER role. -/
structure LinkUnit where
  ports : PerPort PortState
  controller : Port
  takeoverAllowed : Bool
  lastServed : Port
  restartPending : Option Port
  lineRate : LineRate
deriving DecidableEq, Repr

/-! ### The whole -/

/-- The state of the part. `pending` is the model's queue of waiting commands, first in first out (log 3). -/
structure State where
  pending : List Instr
  lanes : PerLane LaneSlot
  store : Store
  tick : TickGen
  panel : Panel
  link : LinkUnit
deriving DecidableEq, Repr

/-- Why a step stops with a fault. -/
inductive Fault where
  /-- Raised by an arrival start that finds fewer free pages than its frame takes. R32 says that this cannot happen, and
  no state reached from reset meets it. Safe (log 20). -/
  | poolExhausted
deriving DecidableEq, Repr

/-- Why a step is refused. -/
inductive Refusal where
  /-- Raised by the dispatcher for a command that has no meaning yet; no command is left so. Safe. -/
  | notModelled (mnemonic : String)
  /-- Raised by PACKET_ARRIVAL, ARRIVAL_START and ARRIVAL_COMPLETION for a command that no input link can give
  (WellFormed). Safe (log 21). -/
  | illFormed
deriving DecidableEq, Repr

/-! ### Reset (R17, R42, R89, R110, R163, R178) -/

/-- Lane counters at 0. -/
def LaneCounters.zero : LaneCounters :=
  { underrun := 0, overflow := 0, slip := 0, damaged := 0, malformed := 0, formatMismatch := 0, ancDropped := 0
    ancLost := 0, carryLost := 0, linkSlip := 0 }

/-- An OFF lane with its counters at 0 (R17). -/
def LaneSlot.off : LaneSlot := { counters := .zero, body := none }

/-- A bank after power-up (R42). -/
def Bank.clear : Bank := { correctedData := 0, correctedCheck := 0, uncorrectable := 0, arm := none }

/-- The Frame Store after power-up (R42): every page free in ascending order. -/
def Store.reset : Store :=
  { free := [{ first := 0, more := Config.poolPages - 1 }]
    budget := { l1 := 0, l2 := 0, l3 := 0, l4 := 0 }
    inUse := { l1 := 0, l2 := 0, l3 := 0, l4 := 0 }
    banks := Vector.replicate 8 .clear
    errs := [] }

/-- An input line after reset (R163). -/
def InLine.reset : InLine :=
  { func := .unbound, mask := 0, inverted := false, length := 1, level := false, count := 0 }

/-- An output line after reset (R163). -/
def OutLine.reset : OutLine :=
  { func := .unbound, lane := none, inverted := false, manual := false, forceEnable := false, forceValue := false }

/-- The panel after reset (R163). -/
def Panel.reset : Panel :=
  { inputs := Vector.replicate 16 .reset, outputs := Vector.replicate 16 .reset, fired := [], lockout := false }

/-- Every kind enabled, the first five of class HIGH (9.4, R176). -/
def KindSetting.defaults : Vector KindSetting 13 :=
  #v[⟨true, true⟩, ⟨true, true⟩, ⟨true, true⟩, ⟨true, true⟩, ⟨true, true⟩, ⟨true, false⟩, ⟨true, false⟩, ⟨true, false⟩,
     ⟨true, false⟩, ⟨true, false⟩, ⟨true, false⟩, ⟨true, false⟩, ⟨true, false⟩]

/-- A port after power-up (R178). -/
def PortState.reset : PortState :=
  { rx := .hunting, inbound := [], replies := [], overflowSeen := false, kinds := KindSetting.defaults, notices := []
    gapError := 0, crcError := 0, frameError := 0, overflowDiscard := 0, onLine := none }

/-- The Control Link Unit after power-up (R178), its line rate by the RATESEL strap: high selects 115,200 baud (R164). -/
def LinkUnit.reset (ratesel : Bool) : LinkUnit :=
  { ports := { a := .reset, b := .reset }, controller := .a, takeoverAllowed := true, lastServed := .b
    restartPending := none, lineRate := if ratesel then .baud115200 else .baud38400 }

/-- The part right after power-up with RATESEL low (log 27). -/
def State.reset : State :=
  { pending := []
    lanes := { l1 := .off, l2 := .off, l3 := .off, l4 := .off }
    store := .reset
    tick := { locked := none, pulseSeen := false }
    panel := .reset
    link := .reset false }

end Sys2Proof.Machine
end

