-- ==== Sys2Proof/Machine/Bytes.lean ====
section
/-! DEFINITION. Byte order, saturating counts and the CRC of the control ports (R167, R179). -/

namespace Sys2Proof.Machine

/-- A count raised by n that stays at `cap` once it reaches it (R5, R38, R168, R175). -/
def satAdd (cap x n : Nat) : Nat := max x (min cap (x + n))

/-- Two bytes, high byte first (R179). -/
def be16 (n : Nat) : List Byte := [BitVec.ofNat 8 (n / 256), BitVec.ofNat 8 n]

/-- Three bytes, high byte first (R179). -/
def be24 (n : Nat) : List Byte := [BitVec.ofNat 8 (n / 65536), BitVec.ofNat 8 (n / 256), BitVec.ofNat 8 n]

/-- Four bytes, high byte first (R179). -/
def be32 (n : Nat) : List Byte := BitVec.ofNat 8 (n / 16777216) :: be24 n

/-- A signed number in two bytes of two's complement, high byte first (R179). -/
def be16Int (d : Int) : List Byte := be16 (BitVec.ofInt 16 d).toNat

/-- The number in two bytes, high byte first (R179). -/
def nat16 (h l : Byte) : Nat := h.toNat * 256 + l.toNat

/-- The number in three bytes, high byte first (R179). -/
def nat24 (h m l : Byte) : Nat := h.toNat * 65536 + nat16 m l

/-- The packet type in two bytes, high byte first (R179). -/
def type16 (h l : Byte) : PacketType := BitVec.ofNat 16 (nat16 h l)

/-- A yes-or-no byte (R179). -/
def boolByte (x : Bool) : Byte := if x then 1 else 0

/-- A byte from its bits, bit 0 first. -/
def bitsByte (bits : List Bool) : Byte :=
  bits.foldr (fun b acc => (acc <<< 1) ||| boolByte b) 0

/-- One bit of the CRC of R167: polynomial 0x1021, most significant bit first. -/
def crcBit (c : BitVec 16) : BitVec 16 := if c.msb then (c <<< 1) ^^^ 0x1021#16 else c <<< 1

/-- `n` bits of the CRC. -/
def crcBits : Nat → BitVec 16 → BitVec 16
  | 0, c => c
  | n + 1, c => crcBits n (crcBit c)

/-- One byte of the CRC of R167. -/
def crcByte (c : BitVec 16) (b : Byte) : BitVec 16 := crcBits 8 (c ^^^ (b.zeroExtend 16 <<< 8))

/-- The CRC of R167 over the length byte, tag, code, status byte of a reply and body. -/
def crc16 (bytes : List Byte) : BitVec 16 := bytes.foldl crcByte 0xFFFF#16

/-- The CRC as sent: high byte, then low byte (R167). -/
def crcBytes (bytes : List Byte) : List Byte := be16 (crc16 bytes).toNat

/-- A message frame around the bytes from the tag to the end of the body: start byte, length byte, content, CRC (10.1). -/
def frameBytes (content : List Byte) : List Byte :=
  let counted := BitVec.ofNat 8 content.length :: content
  0xA7#8 :: (counted ++ crcBytes counted)

end Sys2Proof.Machine
end

