-- ==== Sys2Proof/Decode.lean ====
section
/-! DEFINITION. What a word of the opcode table spells, and the commands that deliver a request to a port.
spec/opcode_table.json gives no row any bits: the part has no instruction words, its commands are events and messages
(log 28). -/

namespace Sys2Proof

/-- The command that a word of the opcode table spells: none, since no row has bits. -/
def decodeTableWord (_nbits _w : Nat) : Option Instr := none

/-- The RECEIVE_BYTE commands by which a control system delivers a request to a port: its frame, CRC included (10.1). -/
def requestCommands (p : Port) (tag code : Byte) (body : List Byte) : List Instr :=
  (Machine.frameBytes (tag :: code :: body)).map fun b => Instr.receiveByte p b false

end Sys2Proof
end

