-- ==== Sys2Proof/Machine/Format.lean ====
section
/-! DEFINITION. The figures of a lane's format: frame rates, audio cadence, pages per frame, capacity, conversions between
milliseconds and frames, and the tone table (01, 05). -/

namespace Sys2Proof.Machine

/-- The numerator of a rate's frame rate (1.1). -/
def rateNum (r : Fin 8) : Nat :=
  match r with
  | 0 => 24000
  | 1 => 24
  | 2 => 25
  | 3 => 30000
  | 4 => 30
  | 5 => 50
  | 6 => 60000
  | 7 => 60

/-- The denominator of a rate's frame rate (1.1). -/
def rateDen (r : Fin 8) : Nat :=
  match r with
  | 0 => 1001
  | 3 => 1001
  | 6 => 1001
  | _ => 1

/-- The cadence period P (1.1). -/
def cadencePeriod (r : Fin 8) : Nat :=
  match r with
  | 3 => 5
  | 6 => 5
  | _ => 1

/-- S(k), the audio samples per channel required at output phase k (R100). -/
def cadence (r : Fin 8) (k : Nat) : Nat :=
  (k + 1) * 48000 * rateDen r / rateNum r - k * 48000 * rateDen r / rateNum r

/-- The sample counts that R49 takes as legal: the cadence values of the rate. -/
def legalCount (r : Fin 8) (n : Nat) : Bool := (List.range (cadencePeriod r)).any fun k => cadence r k == n

/-- Pages per frame (1.1). -/
def pagesPerFrame : VideoClass → Nat
  | .audioOnly => 1
  | .hd720 => 10
  | .hd1080 => 21

/-- The audio channel count as a number (R1). -/
def ChannelCount.toNat : ChannelCount → Nat
  | .c2 => 2
  | .c4 => 4
  | .c8 => 8
  | .c16 => 16

/-- M = min(4096, floor(B / ppf) − 2) (R2). -/
def maxRecords (budget : Nat) (c : VideoClass) : Nat := min 4096 (budget / pagesPerFrame c - 2)

/-- The video pages of a frame: all pages but the last, or none on a lane of class NONE (R32). -/
def videoPages (c : VideoClass) (pages : List PageNo) : List PageNo :=
  match c with
  | .audioOnly => []
  | _ => pages.dropLast

/-- The audio/packet page of a frame: its last page (R32). -/
def audioPages (c : VideoClass) (pages : List PageNo) : List PageNo := pages.drop (videoPages c pages).length

/-- Whether a raster is one of the lane's class (R50). -/
def rasterMatches : VideoClass → Raster → Bool
  | .hd720, .hd720 => true
  | .hd1080, .hd1080 => true
  | _, _ => false

/-- Milliseconds to frames of a rate, to the nearest frame, a half going up (R19). -/
def toFrames (r : Fin 8) (ms : Nat) : Nat :=
  (2 * ms * rateNum r + rateDen r * 1000) / (2 * rateDen r * 1000)

/-- Frames of a rate to milliseconds, to the nearest millisecond, a half going up (R21). -/
def toMs (r : Fin 8) (frames : Nat) : Nat :=
  (2 * frames * rateDen r * 1000 + rateNum r) / (2 * rateNum r)

/-- A target from its stored milliseconds, clamped into 2..M−2 (R19, R20), and whether it was clamped. -/
def targetSetting (r : Fin 8) (m ms : Nat) : Setting × Bool :=
  let f := toFrames r ms
  let g := min (max f 2) (m - 2)
  ({ ms := ms, frames := g }, g != f)

/-- A dump size from its stored milliseconds, clamped into 1..M unless it is the whole line (R20). -/
def dumpSetting (r : Fin 8) (m ms : Nat) : Setting × Bool :=
  if ms = 0 then ({ ms := 0, frames := 0 }, false)
  else
    let f := toFrames r ms
    let g := min (max f 1) m
    ({ ms := ms, frames := g }, g != f)

/-- A cover lead from its stored milliseconds, clamped into 0..M (R20). -/
def leadSetting (r : Fin 8) (m ms : Nat) : Setting × Bool :=
  let f := toFrames r ms
  let g := min f m
  ({ ms := ms, frames := g }, g != f)

/-- sin(2πk/48) for k = 0..12, times 10^20, to the nearest whole number; exact at k = 0, 4 and 12 (R105; log 19). -/
def quarterSine : List Nat :=
  [0, 13052619222005159155, 25881904510252076235, 38268343236508977173, 50000000000000000000,
   60876142900872063942, 70710678118654752440, 79335334029123516458, 86602540378443864676,
   92387953251128675613, 96592582628906828675, 99144486137381041114, 100000000000000000000]

/-- The magnitude of the tone table's entry k ≤ 12 at an amplitude, rounded half away from zero (R105). -/
def toneMagnitude (amplitude k : Nat) : Nat :=
  (2 * amplitude * quarterSine.getD k 0 + 100000000000000000000) / 200000000000000000000

/-- T(k), the tone table's entry k at an amplitude (R105). -/
def toneEntry (amplitude k : Nat) : Int :=
  let j := k % 48
  if j ≤ 12 then toneMagnitude amplitude j
  else if j ≤ 24 then toneMagnitude amplitude (24 - j)
  else if j ≤ 36 then -(toneMagnitude amplitude (j - 24) : Int)
  else -(toneMagnitude amplitude (48 - j) : Int)

/-- The magnitude of a sample; that of −8,388,608 is 8,388,607 (R51). -/
def magnitude (x : Sample) : Nat := min 8388607 x.toInt.natAbs

/-- The channels 1..n of a 16-channel mask that it names, channel k at bit k − 1 (R179), counted from 0. -/
def maskedChannels (mask : BitVec 16) (n : Nat) : List Nat := (List.range n).filter fun i => mask.getLsbD i

/-- The level of a frame's stored audio over a quiet mask (R51); a frame that stores no sample has level 0. -/
def levelOf (mask : BitVec 16) (channels : Nat) (audio : List (List Sample)) : Nat :=
  (maskedChannels mask channels).foldl
    (fun acc i => (audio.getD i []).foldl (fun a x => max a (magnitude x)) acc) 0

/-- Silence of n samples on each of c channels. -/
def silence (c n : Nat) : List (List Sample) := List.replicate c (List.replicate n 0)

/-- A channel fitted to n samples: of one more the last is dropped, of one fewer the last is doubled (R101). -/
def fitChannel (n : Nat) (xs : List Sample) : List Sample :=
  (xs ++ List.replicate (n - xs.length) (xs.getLastD 0)).take n

/-- A block of c channels fitted to n samples (R101, R102). -/
def fitBlock (c n : Nat) (block : List (List Sample)) : List (List Sample) :=
  (List.range c).map fun i => fitChannel n (block.getD i [])

end Sys2Proof.Machine
end

