-- ==== Sys2Proof/Machine/Operands.lean ====
section
/-! DEFINITION. The operand forms of a message body: every enumerated byte, lane number, mask and flag, read from its byte
and written to it (10_message_reference.md, R179 to R185). A byte outside its list reads as `none`. -/

namespace Sys2Proof.Machine

/-- The four lanes in ascending order. -/
def allLanes : List Lane := [.l1, .l2, .l3, .l4]

/-- A lane's number, 1..4. -/
def laneNo : Lane → Nat
  | .l1 => 1
  | .l2 => 2
  | .l3 => 3
  | .l4 => 4

/-- A lane number as a byte, 0 for the unit or for none (R179). -/
def laneByte (l : Option Lane) : Byte :=
  match l with
  | none => 0
  | some l => BitVec.ofNat 8 (laneNo l)

/-- A lane number 1..4. -/
def laneOf (b : Byte) : Option Lane := allLanes.find? fun l => laneByte (some l) == b

/-- Whether a lane mask names a lane: lane k at bit k − 1 (R179). -/
def maskHas (mask : BitVec 4) (l : Lane) : Bool := mask.getLsbD (laneNo l - 1)

/-- The lanes a mask names, in ascending order. -/
def maskLanes (mask : BitVec 4) : List Lane := allLanes.filter (maskHas mask)

/-- A lane mask with bits 4 to 7 clear. -/
def laneMaskOf (b : Byte) : Option (BitVec 4) := if b.toNat < 16 then some (BitVec.ofNat 4 b.toNat) else none

/-- A lane mask as a byte. -/
def laneMaskByte (mask : BitVec 4) : Byte := BitVec.ofNat 8 mask.toNat

/-- A yes-or-no byte, 0 or 1. -/
def boolOf (b : Byte) : Option Bool := if b = 0 then some false else if b = 1 then some true else none

/-- A port, 0 for A and 1 for B (R181). -/
def portOf (b : Byte) : Option Port := if b = 0 then some .a else if b = 1 then some .b else none

/-- A port as a byte. -/
def portByte : Port → Byte
  | .a => 0
  | .b => 1

/-- A rate code 0..7 (R183). -/
def rateOf (b : Byte) : Option (Fin 8) := if h : b.toNat < 8 then some ⟨b.toNat, h⟩ else none

/-- The number of a video class (R183). -/
def classByte : VideoClass → Byte
  | .audioOnly => 0
  | .hd720 => 1
  | .hd1080 => 2

/-- A video class (R183). -/
def classOf (b : Byte) : Option VideoClass :=
  [VideoClass.audioOnly, .hd720, .hd1080].find? fun c => classByte c == b

/-- A channel count 2, 4, 8 or 16 (R183). -/
def channelsOf (b : Byte) : Option ChannelCount :=
  [ChannelCount.c2, .c4, .c8, .c16].find? fun c => c.toNat == b.toNat

/-- A packet class (R183). -/
def packetClassOf (b : Byte) : Option PacketClass :=
  if b = 0 then some .live else if b = 1 then some .delay else if b = 2 then some .carry
  else if b = 3 then some .drop else none

/-- A watch action (R183). -/
def watchActionOf (b : Byte) : Option WatchAction :=
  if b = 0 then some .mark else if b = 1 then some .coverOn else if b = 2 then some .coverOff
  else if b = 3 then some .notify else none

/-- The number of a fill kind (R183). -/
def fillKindByte : FillKind → Byte
  | .silence => 0
  | .tone => 1

/-- A fill kind (R183). -/
def fillKindOf (b : Byte) : Option FillKind := if b = 0 then some .silence else if b = 1 then some .tone else none

/-- An error size (R182). -/
def errSizeOf (b : Byte) : Option ErrSize := if b = 0 then some .single else if b = 1 then some .double else none

/-- An error field (R182). -/
def errFieldOf (b : Byte) : Option ErrField := if b = 0 then some .data else if b = 1 then some .check else none

/-- A bank 0..7 (R39). -/
def bankOfByte (b : Byte) : Option (Fin 8) := rateOf b

/-- A panel line 1..16 at index 0..15 (R157, R161). -/
def lineOf (b : Byte) : Option (Fin 16) :=
  if h : 1 ≤ b.toNat ∧ b.toNat ≤ 16 then some ⟨b.toNat - 1, by omega⟩ else none

/-- A panel line's number as a byte. -/
def lineByte (i : Fin 16) : Byte := BitVec.ofNat 8 (i.val + 1)

/-- The number of an input function (R181). -/
def inFuncNo : InFunc → Nat
  | .unbound => 0
  | .dump => 1
  | .cover => 2
  | .mark => 3
  | .cutToMark => 4
  | .enter => 5
  | .exit => 6

/-- An input function (R181). -/
def inFuncOf (b : Byte) : Option InFunc :=
  [InFunc.unbound, .dump, .cover, .mark, .cutToMark, .enter, .exit].find? fun f => inFuncNo f == b.toNat

/-- The number of an output function (R182). -/
def outFuncNo : OutFunc → Nat
  | .unbound => 0
  | .dumpReady => 1
  | .inDelay => 2
  | .building => 3
  | .coverOn => 4
  | .inputLost => 5
  | .portAControls => 6
  | .panelLocked => 7

/-- An output function (R182). -/
def outFuncOf (b : Byte) : Option OutFunc :=
  [OutFunc.unbound, .dumpReady, .inDelay, .building, .coverOn, .inputLost, .portAControls, .panelLocked].find?
    fun f => outFuncNo f == b.toNat

/-- Whether an output function uses the line's lane (R160). -/
def usesLane : OutFunc → Bool
  | .dumpReady | .inDelay | .building | .coverOn | .inputLost => true
  | .unbound | .portAControls | .panelLocked => false

/-- A kind's byte in SET_NOTICES: bit 0 enabled, bit 1 HIGH, bits 2 to 7 clear (R181). -/
def kindSettingOf (b : Byte) : Option KindSetting :=
  if b.toNat < 4 then some { enabled := b.getLsbD 0, high := b.getLsbD 1 } else none

/-- A kind's setting as its byte. -/
def kindSettingByte (k : KindSetting) : Byte := bitsByte [k.enabled, k.high]

/-- A route table entry: low type, high type, class (R183). -/
def routeEntriesOf : List Byte → Option (List RouteEntry)
  | [] => some []
  | lh :: ll :: hh :: hl :: c :: rest => do
      let cls ← packetClassOf c
      let more ← routeEntriesOf rest
      return { low := type16 lh ll, high := type16 hh hl, cls := cls } :: more
  | _ => none

/-- A watch entry as sent: type, match length, four match bytes, action (R183). The match length is kept beside the entry
for the check of R59. -/
def watchEntriesOf : List Byte → Option (List (Nat × WatchEntry))
  | [] => some []
  | th :: tl :: n :: m0 :: m1 :: m2 :: m3 :: a :: rest => do
      let action ← watchActionOf a
      let more ← watchEntriesOf rest
      return (n.toNat, { type := type16 th tl, bytes := [m0, m1, m2, m3].take n.toNat, action := action }) :: more
  | _ => none

/-- The number of a lane state, 0 for OFF (R181). -/
def stateByte : Option Mode → Byte
  | none => 0
  | some .pass => 1
  | some .build => 2
  | some .onTarget => 3
  | some .trim => 4
  | some .drain => 5

/-- The number of a cause (R181). -/
def causeByte : Cause → Byte
  | .message => 0
  | .panel => 1
  | .governor => 2
  | .leader => 3
  | .unlinked => 4
  | .restarted => 5

/-- The number of a cut kind (R132). -/
def cutKindByte : CutKind → Byte
  | .dump => 1
  | .mark => 2
  | .exit => 3

/-- The number of a damage (R181). -/
def damageByte : Damage → Byte
  | .video => 1
  | .audio => 2
  | .both => 3

/-- The number of a mark's standing, 0 when absent (R184). -/
def standingByte : Option Mark → Byte
  | none => 0
  | some m =>
    match m.standing with
    | .pending => 1
    | .arriving => 2
    | .held => 3
    | .gone .aired => 4
    | .gone .removed => 5

/-- The number of an injection arm (R182). -/
def armByte : Option WordErr → Byte
  | none => 0
  | some ⟨.single, .data⟩ => 1
  | some ⟨.single, .check⟩ => 2
  | some ⟨.double, .data⟩ => 3
  | some ⟨.double, .check⟩ => 4

/-- The number of an error size (R182). -/
def errSizeByte : ErrSize → Byte
  | .single => 0
  | .double => 1

/-- The number of an error field (R182). -/
def errFieldByte : ErrField → Byte
  | .data => 0
  | .check => 1

/-- The code of a result (10.3). -/
def resultNo : Result → Nat
  | .ok => 0
  | .clamped => 1
  | .partialCut => 2
  | .markAired => 3
  | .noMark => 4
  | .noTarget => 5
  | .notDelaying => 6
  | .laneActive => 7
  | .linked => 8
  | .linkRefused => 9
  | .notController => 10
  | .takeoverLocked => 11
  | .noPages => 12
  | .busy => 13
  | .badArgument => 14
  | .badLength => 15
  | .unknownMessage => 16

/-- The place of a notice's kind in the default order, 1..13 (9.4). -/
def kindNo : Detail → Nat
  | .controlLost _ => 1
  | .reference _ => 2
  | .laneState _ _ => 3
  | .dumpDone _ _ _ => 4
  | .input _ => 5
  | .damaged _ _ => 6
  | .underrun _ => 7
  | .overflow _ => 8
  | .watchHit _ _ => 9
  | .carryLost _ _ _ => 10
  | .linkSlip _ _ => 11
  | .panelEvent _ _ _ => 12
  | .storeError _ => 13

/-- The same place as an index of a port's settings. -/
def kindIndex (d : Detail) : Fin 13 := Fin.ofNat 13 (kindNo d - 1)

/-- The bytes of a notice's detail that its kind uses (R181). -/
def detailBytes : Detail → List Byte
  | .controlLost p => [portByte p]
  | .reference back => [boolByte back]
  | .laneState st cause => [stateByte st, causeByte cause]
  | .dumpDone k n mapped => cutKindByte k :: be16 n ++ [boolByte mapped]
  | .input back => [boolByte back]
  | .damaged q d => be32 q.toNat ++ [damageByte d]
  | .underrun n => be16 n
  | .overflow q => be32 q.toNat
  | .watchHit i q => BitVec.ofNat 8 i :: be32 q.toNat
  | .carryLost departure n ty => [boolByte departure, BitVec.ofNat 8 n] ++ be16 ty.toNat
  | .linkSlip l skip => [laneByte (some l), boolByte skip]
  | .panelEvent i f mask => [lineByte i, BitVec.ofNat 8 (inFuncNo f), laneMaskByte mask]
  | .storeError k => [BitVec.ofNat 8 k.val]

/-- The body of a notice frame: kind, lane, count, six bytes of detail (10.4, R181). -/
def noticeBody (e : NoticeEntry) : List Byte :=
  [BitVec.ofNat 8 (kindNo e.detail), laneByte e.lane, BitVec.ofNat 8 e.count]
    ++ detailBytes e.detail ++ List.replicate (6 - (detailBytes e.detail).length) 0

/-- The bytes of a splice packet's payload (R132, R186). -/
def splicePayload (frames : Nat) (kind : CutKind) (delayMs : Nat) : List Byte :=
  be16 frames ++ [cutKindByte kind] ++ be16 (min 65535 delayMs)

end Sys2Proof.Machine
end

