-- ==== Sys2Proof/Machine/Ops.lean ====
section
/-! DEFINITION. The operations that more than one command uses: reading and changing a lane, counting, posting notices, the
free page list, page writes and reads, the packet lists, the mark, the cover source set. -/

namespace Sys2Proof.Machine

/-! ### Lanes -/

/-- A lane's body, absent in OFF. -/
def State.body? (s : State) (l : Lane) : Option LaneBody := (s.lanes.get l).body

/-- A lane's state, `none` for OFF. -/
def State.mode? (s : State) (l : Lane) : Option Mode := (s.body? l).map (·.mode)

/-- A lane's body replaced. -/
def State.setBody (s : State) (l : Lane) (b : Option LaneBody) : State :=
  { s with lanes := s.lanes.set l { s.lanes.get l with body := b } }

/-- A configured lane's body changed; nothing on an OFF lane. -/
def State.modBody (s : State) (l : Lane) (f : LaneBody → LaneBody) : State := s.setBody l ((s.body? l).map f)

/-- The leader of a follower. -/
def State.leaderOf? (s : State) (l : Lane) : Option Lane := (s.body? l).bind fun b => b.link.map (·.leader)

/-- The followers of a lane, in ascending order (1.4). -/
def State.followersOf (s : State) (l : Lane) : List Lane := allLanes.filter fun f => s.leaderOf? f == some l

/-- H, the number of records a lane's line holds (R68). -/
def LaneBody.h (b : LaneBody) : Nat := b.dl.records.length

/-- Whether a lane is delaying (1.2). -/
def Mode.delaying : Mode → Bool
  | .pass => false
  | .build | .onTarget | .trim | .drain => true

/-! ### Counters -/

/-- The lane counters by name (R5). -/
inductive Counter where
  | underrun | overflow | slip | damaged | malformed | formatMismatch | ancDropped | ancLost | carryLost | linkSlip
deriving DecidableEq, Repr

/-- One lane counter raised by n, staying at 65,535 (R5). -/
def LaneCounters.add (c : LaneCounters) (k : Counter) (n : Nat) : LaneCounters :=
  match k with
  | .underrun => { c with underrun := satAdd 65535 c.underrun n }
  | .overflow => { c with overflow := satAdd 65535 c.overflow n }
  | .slip => { c with slip := satAdd 65535 c.slip n }
  | .damaged => { c with damaged := satAdd 65535 c.damaged n }
  | .malformed => { c with malformed := satAdd 65535 c.malformed n }
  | .formatMismatch => { c with formatMismatch := satAdd 65535 c.formatMismatch n }
  | .ancDropped => { c with ancDropped := satAdd 65535 c.ancDropped n }
  | .ancLost => { c with ancLost := satAdd 65535 c.ancLost n }
  | .carryLost => { c with carryLost := satAdd 65535 c.carryLost n }
  | .linkSlip => { c with linkSlip := satAdd 65535 c.linkSlip n }

/-- A lane's counter raised by n. -/
def State.count (s : State) (l : Lane) (k : Counter) (n : Nat) : State :=
  { s with lanes := s.lanes.set l { s.lanes.get l with counters := (s.lanes.get l).counters.add k n } }

/-! ### Notices (R175) -/

/-- The order of an entry in a pending set: by kind, then by lane (R177). -/
def NoticeEntry.key (e : NoticeEntry) : Nat := kindNo e.detail * 5 + (laneByte e.lane).toNat

/-- A posting taken into a pending set: it raises the count and replaces the detail of the entry of its kind and lane, or
makes a new entry (R175). -/
def insertNotice (e : NoticeEntry) : List NoticeEntry → List NoticeEntry
  | [] => [e]
  | h :: t =>
    if e.key < h.key then e :: h :: t
    else if e.key = h.key then { h with detail := e.detail, count := satAdd 255 h.count 1 } :: t
    else h :: insertNotice e t

/-- Whether a port keeps postings of a kind: CONTROL_LOST always, any other by the port's mask (R175, R176). -/
def PortState.keeps (p : PortState) (d : Detail) : Bool := kindNo d == 1 || (p.kinds.get (kindIndex d)).enabled

/-- A posting offered to a port (R175). -/
def PortState.post (p : PortState) (l : Option Lane) (d : Detail) : PortState :=
  if p.keeps d then { p with notices := insertNotice { lane := l, detail := d, count := 1 } p.notices } else p

/-- A posting offered to one port. -/
def State.postOn (s : State) (p : Port) (l : Option Lane) (d : Detail) : State :=
  { s with link := { s.link with ports := s.link.ports.set p ((s.link.ports.get p).post l d) } }

/-- A posting offered to both ports (R175). -/
def State.post (s : State) (l : Option Lane) (d : Detail) : State := (s.postOn .a l d).postOn .b l d

/-! ### The free page list (R29, R32, R33) -/

/-- The pages of a free page list, head first. -/
def freeList : List Run → List PageNo
  | [] => []
  | r :: rest => List.range' r.first (r.more + 1) ++ freeList rest

/-- The number of pages in a free page list. -/
def freeCount : List Run → Nat
  | [] => 0
  | r :: rest => r.more + 1 + freeCount rest

/-- The page at the head of the free page list, and the list without it. -/
def popPage : List Run → Option (PageNo × List Run)
  | [] => none
  | r :: rest =>
    match r.more with
    | 0 => some (r.first, rest)
    | m + 1 => some (r.first, { first := r.first + 1, more := m } :: rest)

/-- n pages from the head of the free page list, in the order taken (R32). -/
def popPages : Nat → List Run → Option (List PageNo × List Run)
  | 0, runs => some ([], runs)
  | n + 1, runs =>
    match popPage runs with
    | none => none
    | some (p, rest) => (popPages n rest).map fun (ps, r) => (p :: ps, r)

/-- A freed page joins the tail of the free page list (R29). -/
def pushPage (p : PageNo) : List Run → List Run
  | [] => [{ first := p, more := 0 }]
  | [r] => if r.first + r.more + 1 = p then [{ r with more := r.more + 1 }] else [r, { first := p, more := 0 }]
  | r :: r' :: rest => r :: pushPage p (r' :: rest)

/-- Pages of a lane return to the free page list one after another (R29, R31). -/
def Store.giveBack (st : Store) (l : Lane) (pages : List PageNo) : Store :=
  { st with
    free := pages.foldl (fun runs p => pushPage p runs) st.free
    inUse := st.inUse.set l (st.inUse.get l - pages.length) }

/-- Pages of a lane return to the free page list. -/
def State.freePages (s : State) (l : Lane) (pages : List PageNo) : State := { s with store := s.store.giveBack l pages }

/-- n pages are given to a lane: the pages and the store after, or `none` when fewer are free (R32). -/
def Store.allocate (st : Store) (l : Lane) (n : Nat) : Option (List PageNo × Store) :=
  (popPages n st.free).map fun (ps, free) =>
    (ps, { st with free := free, inUse := st.inUse.set l (st.inUse.get l + n) })

/-! ### Page writes and reads (R35 to R40) -/

/-- The bank of a page (R28). -/
def bankOf (p : PageNo) : Fin 8 := Fin.ofNat 8 p

/-- The page of a word address. -/
def pageOf (addr : Nat) : PageNo := addr / Config.wordsPerPage

/-- The error map with an error at an address, addresses rising. -/
def insertErr (a : Nat) (e : WordErr) : List (Nat × WordErr) → List (Nat × WordErr)
  | [] => [(a, e)]
  | h :: t => if a < h.1 then (a, e) :: h :: t else if a = h.1 then (a, e) :: t else h :: insertErr a e t

/-- A bank changed. -/
def Store.setBank (st : Store) (k : Fin 8) (b : Bank) : Store := { st with banks := st.banks.set k.val b k.isLt }

/-- A page completes its write: fresh check fields throughout, and in an armed bank word 0 takes the armed error and the
arm becomes clear (R35, R40). -/
def Store.writePage (st : Store) (p : PageNo) : Store :=
  let fresh := st.errs.filter fun e => pageOf e.1 != p
  let bank := st.banks.get (bankOf p)
  match bank.arm with
  | none => { st with errs := fresh }
  | some e => { st.setBank (bankOf p) { bank with arm := none } with
                errs := insertErr (p * Config.wordsPerPage) e fresh }

/-- Pages complete their writes in order. -/
def Store.writePages (st : Store) (ps : List PageNo) : Store := ps.foldl Store.writePage st

/-- A bank with one more reading counted (R36, R38). -/
def Bank.read (b : Bank) (e : WordErr) : Bank :=
  match e.size, e.field with
  | .single, .data => { b with correctedData := satAdd 65535 b.correctedData 1 }
  | .single, .check => { b with correctedCheck := satAdd 65535 b.correctedCheck 1 }
  | .double, _ => { b with uncorrectable := satAdd 65535 b.uncorrectable 1 }

/-- One word in error is read from a bank: it is counted, and an uncorrectable one posts STORE_ERROR (R36, R37). -/
def State.readErr (s : State) (k : Fin 8) (e : WordErr) : State :=
  let counted := { s with store := s.store.setBank k ((s.store.banks.get k).read e) }
  match e.size with
  | .single => counted
  | .double => counted.post none (.storeError k)

/-- A page is read, every word checked (R36). -/
def State.readPage (s : State) (p : PageNo) : State :=
  (s.store.errs.filter fun e => pageOf e.1 == p).foldl (fun s e => s.readErr (bankOf p) e.2) s

/-- Pages are read in order. -/
def State.readPages (s : State) (ps : List PageNo) : State := ps.foldl State.readPage s

/-- Whether a page reads uncorrectable: at least one of its words does (R36). -/
def Store.pageBad (st : Store) (p : PageNo) : Bool :=
  st.errs.any fun e => pageOf e.1 == p && e.2.size == .double

/-! ### Packet lists (R80 to R85) -/

/-- The capacity of a packet list (R80). -/
abbrev packetCap : Nat := 32

/-- Packets offered one after another at a list's tail: the list, and those dropped (R80, R81). -/
def joinTail (list offered : List Packet) : List Packet × List Packet :=
  (list ++ offered.take (packetCap - list.length), offered.drop (packetCap - list.length))

/-- A batch joining at a list's front: the list, and those dropped (R83). -/
def joinFront (list batch : List Packet) : List Packet × List Packet :=
  (batch.take (packetCap - list.length) ++ list, batch.drop (packetCap - list.length))

/-- Packets dropped at a list in one event are counted by their source, and CARRY and SPLICE packets post one
CARRY_LOST (R80, R85; log 12). -/
def State.dropPackets (s : State) (l : Lane) (departure : Bool) (dropped : List Packet) : State :=
  let live := dropped.filter (·.source == .live)
  let lost := dropped.filter (·.source != .live)
  let s := if live.isEmpty then s else s.count l .ancDropped live.length
  match lost.getLast? with
  | none => s
  | some p => (s.count l .carryLost lost.length).post (some l) (.carryLost departure (min 255 lost.length) p.type)

/-- The carry store's copies of a frame's CARRY own packets (R70). -/
def carryOwn (own : List OwnPacket) : List Packet :=
  (own.filter (·.carry)).map fun p => { source := .carry, type := p.type, payload := p.payload }

/-! ### The mark (R73 to R75) -/

/-- A mark HELD on one of the seqs that leave the line becomes GONE (R75). -/
def markLeaves (m : Option Mark) (seqs : List Seq) (why : GoneReason) : Option Mark :=
  m.map fun k => if k.standing = .held ∧ k.seq ∈ seqs then { k with standing := .gone why } else k

/-- A mark ARRIVING on a frame takes the standing of the frame's completion or abandonment (R74). -/
def markArrives (m : Option Mark) (seq : Seq) (standing : Standing) : Option Mark :=
  m.map fun k => if k.standing = .arriving ∧ k.seq = seq then { k with standing := standing } else k

/-- A mark PENDING on a seq takes the standing of the frame that takes the seq (R74). -/
def markStarts (m : Option Mark) (seq : Seq) (standing : Standing) : Option Mark :=
  m.map fun k => if k.standing = .pending ∧ k.seq = seq then { k with standing := standing } else k

/-- The mark set now: ARRIVING on the in-arrival frame, or PENDING on next-seq (R73). -/
def LaneBody.newMark (b : LaneBody) : Mark :=
  match b.intake.arrival with
  | some f => { seq := f.seq, standing := .arriving }
  | none => { seq := b.intake.nextSeq, standing := .pending }

/-! ### Cut and discard of frames -/

/-- A record removed from the line gives up its carry store copies (R70). -/
def recordsCarry (rs : List Record) : List Packet := rs.flatMap (·.carryCopy)

/-- The pages of records, in order. -/
def recordsPages (rs : List Record) : List PageNo := rs.flatMap (·.pages)

/-- The pages that belong to a lane: its in-arrival frame's, its records' and its output hold's (R28). -/
def LaneBody.pages (b : LaneBody) : List PageNo :=
  (b.intake.arrival.map (·.pages)).getD [] ++ recordsPages b.dl.records ++ (b.play.hold.map (·.pages)).getD []

/-! ### The cover source set (R76 to R79, R146) -/

/-- The empty set. -/
def CoverSet.empty : CoverSet := { control := false, panel := false, watch := false, leader := false }

/-- Whether the set has no member. -/
def CoverSet.isEmpty (c : CoverSet) : Bool := !(c.control || c.panel || c.watch || c.leader)

/-- The set with a source present or absent. -/
def CoverSet.put (c : CoverSet) (src : CoverSource) (present : Bool) : CoverSet :=
  match src with
  | .control => { c with control := present }
  | .panel => { c with panel := present }
  | .watch => { c with watch := present }
  | .leader => { c with leader := present }

/-- A cover onset: the newest min(L, H) records and the in-arrival frame are flagged (R77). -/
def LaneBody.onset (b : LaneBody) : LaneBody :=
  let reach := min b.timing.lead.frames b.h
  let older := b.dl.records.take (b.h - reach)
  let newer := b.dl.records.drop (b.h - reach)
  { b with
    dl.records := older ++ newer.map fun r => { r with covered := true }
    intake.arrival := b.intake.arrival.map fun f => { f with covered := true } }

/-- A source added to a lane's own set, with an onset when the set was empty (R76). -/
def LaneBody.cover (b : LaneBody) (src : CoverSource) : LaneBody :=
  let added := { b with dl.sources := b.dl.sources.put src true }
  if b.dl.sources.isEmpty then added.onset else added

/-- A source removed from a lane's own set; flags already set stay (R78). -/
def LaneBody.uncover (b : LaneBody) (src : CoverSource) : LaneBody :=
  { b with dl.sources := b.dl.sources.put src false }

/-- Whether a configured lane's cover source set is not empty. -/
def State.covering (s : State) (l : Lane) : Bool :=
  match s.body? l with
  | none => false
  | some b => !b.dl.sources.isEmpty

/-- A source is added to a lane; a set that becomes non-empty adds LEADER on each follower (R76, R146). -/
def State.addSource (s : State) (l : Lane) (src : CoverSource) : State :=
  let t := s.modBody l (·.cover src)
  if !s.covering l && t.covering l then
    (s.followersOf l).foldl (fun u f => u.modBody f (·.cover .leader)) t
  else t

/-- A source is removed from a lane; a set that becomes empty removes LEADER from each follower (R76, R146). -/
def State.removeSource (s : State) (l : Lane) (src : CoverSource) : State :=
  let t := s.modBody l (·.uncover src)
  if s.covering l && !t.covering l then
    (s.followersOf l).foldl (fun u f => u.modBody f (·.uncover .leader)) t
  else t

/-! ### The lane state (R15, R25, R128) -/

/-- A governor's account as a lane enters PASS: disengaged, counters 0 (R12, R13, R128). -/
def GovState.entersPass (g : GovState) : GovState := { g with engaged := false, since := 0, inserts := 0, skips := 0 }

/-- A lane's state set and LANE_STATE posted (R15). -/
def State.putMode (s : State) (l : Lane) (m : Mode) (cause : Cause) : State :=
  (s.modBody l fun b => { b with mode := m }).post (some l) (.laneState (some m) cause)

/-- A follower set to its leader's new state with cause LEADER (R25); one that enters PASS has its governor's account
cleared (R128). -/
def State.followMode (s : State) (f : Lane) (m : Mode) : State :=
  let t := s.putMode f m .leader
  if m = .pass then t.modBody f fun b => { b with gov := b.gov.entersPass } else t

/-- The pending-action count of a follower, 0 on any other lane. -/
def LaneBody.pendingCount (b : LaneBody) : Int := (b.link.map (·.pending)).getD 0

/-- A lane's state changes, and each follower's with it, but for one that still owes actions when its leader goes from
DRAIN to PASS (R15, R25). -/
def State.changeMode (s : State) (l : Lane) (m : Mode) (cause : Cause) : State :=
  let fromDrain := s.mode? l == some .drain
  (s.followersOf l).foldl
    (fun t f =>
      match t.body? f with
      | none => t
      | some b => if fromDrain && m == .pass && b.pendingCount != 0 then t else t.followMode f m)
    (s.putMode l m cause)

/-! ### Sequence numbers (R45, R71) -/

/-- The lane assigns its next-seq: it advances by one, and its followers' links note it (R45, R150; log 26). -/
def State.takeSeq (s : State) (l : Lane) : State :=
  (s.followersOf l).foldl
    (fun t f => t.modBody f fun b => { b with link := b.link.map fun k => { k with leaderMoved := true } })
    (s.modBody l fun b => { b with intake.nextSeq := b.intake.nextSeq + 1 })

/-- Whether the arrival's seq s falls within the discard-through value v (R61). -/
def withinDiscard (v q : Seq) : Bool := (v - q).toNat < 2147483648

/-- Whether seq r is later than seq m, measured from m (R141, R149). -/
def laterThan (r m : Seq) : Bool := 1 ≤ (r - m).toNat && (r - m).toNat ≤ 2147483647

/-- The discard-through test of a frame that takes seq q: whether it is to be discarded, and the value after (R61). -/
def discardTest (b : LaneBody) (q : Seq) : Bool × Option Seq :=
  if b.link.isNone then (false, b.intake.discardThrough)
  else
    match b.intake.discardThrough with
    | none => (false, none)
    | some v => if withinDiscard v q then (true, if q = v then none else some v) else (false, none)

/-! ### Defaults of a configure from OFF (R5) -/

/-- The timing defaults (1.3). -/
def Timing.default : Timing :=
  { target := none, dump := { ms := 0, frames := 0 }, lead := { ms := 0, frames := 0 } }

/-- The governor's default settings (R123). -/
def GovSettings.default : GovSettings := { threshold := 2654, mask := 3, q := 6, s := 12, f := 0, e := 3 }

/-- The governor right after a configure (R130). -/
def GovState.fresh : GovState :=
  { engaged := false, since := 0, inserts := 0, skips := 0, dev := 0, ticked := false }

/-- Frame Intake after a configure from OFF (R67). -/
def Intake.fresh : Intake :=
  { arrival := none, nextSeq := 0, discardThrough := none, ticksSince := 0, owed := 0, loss := false
    routes := [], defaultClass := .delay, watch := [] }

/-- The Delay Line after a configure (R87). -/
def DelayLine.fresh : DelayLine :=
  { records := [], mark := none, sources := .empty, carried := [], departing := [] }

/-- Playout after a configure, with its fill settings (R110). -/
def Playout.fresh (fill : CoverFill) : Playout :=
  { phase := 0, hold := none, lastBlock := none, prevLevel := 0, fillRun := false, tonePhase := 0, quietRun := 0
    depth := 0, output := none, fill := fill }

/-- A lane configured from OFF (R5). -/
def LaneBody.fresh (fmt : Format) (m : Nat) : LaneBody :=
  { fmt := fmt, maxH := m, mode := .pass, link := none, timing := .default, govSet := .default, gov := .fresh
    splice := { enabled := false, type := 0 }, intake := .fresh, dl := .fresh
    play := .fresh { kind := .silence, amplitude := 0, mask := 0xFFFF } }

end Sys2Proof.Machine
end

