-- ==== Sys2Proof/Machine/Flags.lean ====
section
/-! DEFINITION. The computed flags: a reply's status byte, the flags bytes of the status replies, the values and levels of
the panel output lines, the deviation reported, and the levels by which quiet is judged. -/

namespace Sys2Proof.Machine

/-- A reply's status byte: the result code, the overflow-seen flag as the transmitter takes the reply, and the
is-controller indication (10.3, R170, R171). -/
def statusByte (r : Result) (overflowSeen isController : Bool) : Byte :=
  BitVec.ofNat 8 (resultNo r) ||| (boolByte overflowSeen <<< 5) ||| (boolByte isController <<< 6)

/-- The frame of a reply (10.1, R180). -/
def replyFrame (r : Reply) (overflowSeen : Bool) : List Byte :=
  frameBytes (r.tag :: (r.code + 0x80) :: statusByte r.result overflowSeen r.isController :: r.body)

/-- The frame of a notice: tag 0x00, code 0xFE, no status byte (R181). -/
def noticeFrame (e : NoticeEntry) : List Byte := frameBytes (0x00 :: 0xFE :: noticeBody e)

/-- The flags byte of UNIT_STATUS (R181). -/
def State.unitFlags (s : State) : Byte :=
  bitsByte [s.link.controller == .a, !s.link.takeoverAllowed, s.link.lineRate == .baud115200, s.tick.locked.isSome]

/-- A lane's dump size in frames, H in whole-line mode (R20). -/
def LaneBody.dumpSize (b : LaneBody) : Nat := if b.timing.dump.ms = 0 then b.h else b.timing.dump.frames

/-- The flags byte of LANE_STATUS (R184); a follower reports itself disengaged (R128). -/
def LaneBody.flags (b : LaneBody) : Byte :=
  bitsByte [b.gov.engaged && b.link.isNone, b.intake.loss, b.timing.target.isSome, b.timing.dump.ms == 0, b.link.isSome,
    b.intake.arrival.isSome]

/-- The cover source set as a byte (R184). -/
def coverByte (c : CoverSet) : Byte := bitsByte [c.control, c.panel, c.watch, c.leader]

/-- A lane condition shown by an output line, false on an OFF lane (R160). -/
def State.laneShows (s : State) (l : Option Lane) (f : LaneBody → Bool) : Bool :=
  match l.bind s.body? with
  | none => false
  | some b => f b

/-- The value of an output line's function (R160). -/
def State.funcValue (s : State) (o : OutLine) : Bool :=
  match o.func with
  | .unbound => false
  | .dumpReady => s.laneShows o.lane fun b => b.mode.delaying && decide (b.dumpSize ≤ b.h)
  | .inDelay => s.laneShows o.lane fun b => b.mode.delaying
  | .building => s.laneShows o.lane fun b => b.mode == .build
  | .coverOn => s.laneShows o.lane fun b => !b.dl.sources.isEmpty
  | .inputLost => s.laneShows o.lane fun b => b.intake.loss
  | .portAControls => s.link.controller == .a
  | .panelLocked => s.panel.lockout

/-- The level an output line drives: force, function or manual value, inverted by its polarity (R160). -/
def State.outLevel (s : State) (i : Fin 16) : Bool :=
  let o := s.panel.outputs.get i
  let chosen :=
    if o.forceEnable then o.forceValue else if o.func ≠ .unbound then s.funcValue o else o.manual
  chosen != o.inverted

/-- T, the effective target of a lane, in frames (R111). -/
def LaneBody.effectiveTarget (b : LaneBody) : Option Nat :=
  match b.mode with
  | .pass => none
  | .drain => some 1
  | .build | .onTarget | .trim => b.timing.target.map (·.frames)

/-- T − D, 0 where there is no effective target (R111). -/
def LaneBody.deviation (b : LaneBody) : Int :=
  match b.effectiveTarget with
  | none => 0
  | some t => (t : Int) - b.play.depth

/-- The deviation that LANE_STATUS reports (R111; log 13). -/
def LaneBody.reportedDev (b : LaneBody) : Int :=
  if !b.gov.ticked then 0
  else if b.mode = .pass ∨ b.mode = .drain ∨ b.link.isSome then b.deviation
  else b.gov.dev

/-- Whether a covered departure applies fill: the mask names a configured channel (R104). -/
def LaneBody.fillNames (b : LaneBody) : Bool := !(maskedChannels b.play.fill.mask b.fmt.channels.toNat).isEmpty

/-- The level of the cover fill (R106). -/
def CoverFill.level (f : CoverFill) : Nat :=
  match f.kind with
  | .silence => 0
  | .tone => f.amplitude

/-- The level a held record will be emitted with, as foreseen without reading its pages (R108). -/
def LaneBody.foreseenLevel (b : LaneBody) (r : Record) : Nat :=
  if r.covered && b.fillNames then b.play.fill.level else r.level

end Sys2Proof.Machine
end

