-- ==== Sys2Proof/Machine/Receiver.lean ====
section
/-! DEFINITION. The receivers of the control ports: RECEIVE_BYTE and GAP_EXPIRY (R165 to R168). -/

namespace Sys2Proof.Machine

/-- The capacity of an inbound queue and of a reply queue (R167, R169). -/
abbrev queueCap : Nat := 4

/-- A port with one more FRAME_ERROR, its receiver set (R165, R168). -/
def PortState.frameErr (p : PortState) (rx : Receiver) : PortState :=
  { p with rx := rx, frameError := satAdd 65535 p.frameError 1 }

/-- A checked frame is offered to the inbound queue (R167). -/
def PortState.offer (p : PortState) (r : Request) : PortState :=
  if p.inbound.length < queueCap then { p with inbound := p.inbound ++ [r] }
  else { p with overflowDiscard := satAdd 65535 p.overflowDiscard 1, overflowSeen := true }

/-- A complete frame is checked by its CRC (R167). -/
def PortState.checkFrame (p : PortState) (len : Byte) (got : List Byte) (c1 c2 : Byte) : PortState :=
  if crcBytes (len :: got) = [c1, c2] then
    match got with
    | tag :: code :: body => p.offer { tag := tag, code := code, body := body }
    | _ => p
  else { p with crcError := satAdd 65535 p.crcError 1 }

/-- One byte received by a port (R165). -/
def PortState.receive (p : PortState) (b : Byte) (stopError : Bool) : PortState :=
  match p.rx with
  | .hunting => if !stopError && b == 0xA7 then { p with rx := .length } else p
  | .length =>
    if stopError then p.frameErr .hunting
    else if 2 ≤ b.toNat ∧ b.toNat ≤ 60 then { p with rx := .content b [] }
    else p.frameErr (if b = 0xA7 then .length else .hunting)
  | .content len got =>
    if stopError then p.frameErr .hunting
    else if len.toNat ≤ got.length + 1 then { p with rx := .check len (got ++ [b]) none }
    else { p with rx := .content len (got ++ [b]) }
  | .check len got none =>
    if stopError then p.frameErr .hunting else { p with rx := .check len got (some b) }
  | .check len got (some c1) =>
    if stopError then p.frameErr .hunting else { p with rx := .hunting }.checkFrame len got c1 b

/-- A port of the Control Link Unit changed. -/
def State.modPort (s : State) (p : Port) (f : PortState → PortState) : State :=
  { s with link := { s.link with ports := s.link.ports.set p (f (s.link.ports.get p)) } }

/-- RECEIVE_BYTE (R165); while restart is pending every byte is discarded, uncounted (R174). -/
def execReceiveByte (p : Port) (b : Byte) (stopError : Bool) (s : State) : Host.Outcome State Fault Refusal :=
  .next (if s.link.restartPending.isSome then s else s.modPort p fun q => q.receive b stopError)

/-- GAP_EXPIRY (R166): a frame in progress is discarded and GAP_ERROR counts one; in HUNTING no gap is timed. -/
def execGapExpiry (p : Port) (s : State) : Host.Outcome State Fault Refusal :=
  .next
    (if (s.link.ports.get p).rx = .hunting then s
     else s.modPort p fun q => { q with rx := .hunting, gapError := satAdd 65535 q.gapError 1 })

end Sys2Proof.Machine
end

