-- ==== Sys2Proof/Machine/Executor.lean ====
section
/-! DEFINITION. The command executor (R169, R170): which request is taken, in what order it is checked, and its reply. -/

namespace Sys2Proof.Machine

/-- What a request is answered with (R170, R180). -/
structure Answer where
  result : Result
  body : List Byte
deriving DecidableEq, Repr

/-- An answer of result OK. -/
def Answer.ok (body : List Byte) : Answer := { result := .ok, body := body }

/-- A refusal: an empty body (R180). -/
def Answer.refuse (r : Result) : Answer := { result := r, body := [] }

/-- An answer that is CLAMPED when a value was brought into range, OK otherwise. -/
def Answer.applied (clamped : Bool) (body : List Byte) : Answer :=
  { result := if clamped then .clamped else .ok, body := body }

/-- What a message does once its length and sender are checked, given the port and the body (R170, step 4). -/
abbrev Handler := State → Port → List Byte → State × Answer

/-- A port is eligible when its inbound queue holds a request and its reply queue fewer than 4 replies (R169). -/
def PortState.eligible (p : PortState) : Bool := !p.inbound.isEmpty && p.replies.length < queueCap

/-- The port the executor takes from next (R169); none while restart is pending (R174). -/
def LinkUnit.nextPort (u : LinkUnit) : Option Port :=
  if u.restartPending.isSome then none
  else
    match (u.ports.get .a).eligible, (u.ports.get .b).eligible with
    | false, false => none
    | true, false => some .a
    | false, true => some .b
    | true, true => some u.lastServed.other

/-- The request the executor takes next, with its port (R169). An execution has no length here, so that the executor is free at
every row, and the port is chosen from what is eligible when the row comes, not from what was when a frame first made a port
eligible: the model's choice (log 31). -/
def State.nextRequest (s : State) : Option (Port × Request) :=
  s.link.nextPort.bind fun p => (s.link.ports.get p).inbound.head?.map fun r => (p, r)

/-- The state as the executor takes the oldest request of a port (R169). -/
def State.takeRequest (s : State) (p : Port) : State :=
  let t := s.modPort p fun q => { q with inbound := q.inbound.tail }
  { t with link := { t.link with lastServed := p } }

/-- Whether a port holds the CONTROLLER role (R172). -/
def State.controls (s : State) (p : Port) : Bool := s.link.controller == p

/-- A reply to a request placed at the tail of its port's reply queue (R170, R180). -/
def State.reply (s : State) (p : Port) (r : Request) (a : Answer) : State :=
  s.modPort p fun q =>
    { q with
      replies := q.replies ++
        [{ tag := r.tag, code := r.code, result := a.result, isController := s.controls p, body := a.body }] }

/-- The executor takes and executes one request (R170), when the request it takes next is one of the row's; otherwise the
row's step is not taken and nothing changes (log 1). The checks are made in the order of R170: body length, sender, then
those of the message. -/
def State.execute (s : State) (isRow : Request → Bool) (lengthOk : Nat → Bool)
    (permitted : State → Port → List Byte → Bool) (h : Handler) : State :=
  match s.nextRequest with
  | none => s
  | some (p, r) =>
    if !isRow r then s
    else
      let t := s.takeRequest p
      if !lengthOk r.body.length then t.reply p r (.refuse .badLength)
      else if !permitted t p r.body then t.reply p r (.refuse .notController)
      else
        let (u, a) := h t p r.body
        u.reply p r a

/-- Requests of one code. -/
def hasCode (code : Byte) (r : Request) : Bool := r.code == code

/-- A body of one length. -/
def lengthIs (n : Nat) (m : Nat) : Bool := m == n

/-- Sent by either port (R172). -/
def eitherPort (_ : State) (_ : Port) (_ : List Byte) : Bool := true

/-- Sent by the controller only (R172). -/
def controllerOnly (s : State) (p : Port) (_ : List Byte) : Bool := s.controls p

/-- The request codes of 10.2. -/
def requestCodes : List Byte :=
  [0x01, 0x02, 0x03, 0x04, 0x05, 0x06, 0x07, 0x08, 0x09, 0x0A, 0x0B, 0x0C, 0x0D, 0x0E, 0x20, 0x21, 0x22, 0x23, 0x24,
   0x25, 0x26, 0x27, 0x28, 0x29, 0x2A, 0x2B, 0x2C, 0x2D, 0x2E, 0x2F, 0x30]

/-- A lane message's lane: BAD_ARGUMENT outside 1..4 (R6, step 1). -/
def withLane (s : State) (b : Byte) (k : Lane → State × Answer) : State × Answer :=
  match laneOf b with
  | none => (s, .refuse .badArgument)
  | some l => k l

/-- A configured lane: NOT_DELAYING on an OFF lane (R4, R6 step 2). -/
def onConfigured (s : State) (l : Lane) (k : LaneBody → State × Answer) : State × Answer :=
  match s.body? l with
  | none => (s, .refuse .notDelaying)
  | some b => k b

/-- A configured lane that is no follower: LINKED on a follower (R6, steps 2 and 3). -/
def onIndependent (s : State) (l : Lane) (k : LaneBody → State × Answer) : State × Answer :=
  onConfigured s l fun b => if b.link.isSome then (s, .refuse .linked) else k b

end Sys2Proof.Machine
end

