-- ==== Sys2Proof/Machine/Cuts.lean ====
section
/-! DEFINITION. Cuts and covers (07): what every cut does, tail dumps, cuts to the mark, immediate exits, their mapping onto
followers, marks and covers on request. The panel's actions are these same operations (R16). -/

namespace Sys2Proof.Machine

/-- What a cut reports (R134): the frames removed, whether the in-arrival frame was among them, and H after. -/
structure CutReport where
  frames : Nat
  arrival : Bool
  depth : Nat
deriving DecidableEq, Repr

/-- The cut report of a reply (R185). -/
def CutReport.bytes (r : CutReport) : List Byte := be16 r.frames ++ [boolByte r.arrival] ++ be16 r.depth

/-- An in-arrival frame that a cut can still remove: one not already marked for discard (R131). -/
def LaneBody.removableArrival (b : LaneBody) : Bool :=
  match b.intake.arrival with
  | none => false
  | some f => !f.discard

/-- The splice packet of a cut, when the setting is enabled and a frame was removed (R132). -/
def LaneBody.spliceFor (b : LaneBody) (kind : CutKind) (r : CutReport) : List Packet :=
  if b.splice.enabled ∧ 0 < r.frames then
    [{ source := .splice, type := b.splice.type, payload := splicePayload r.frames kind (toMs b.fmt.rate r.depth) }]
  else []

/-- The in-arrival frame marked for discard (R131). -/
def InArrival.markDiscard (f : InArrival) : InArrival := { f with discard := true }

/-- What every cut does to a lane (R131, R132, R134): `kept` stays in the line, `removed` leaves it oldest first, and the
in-arrival frame is marked for discard when `takeArrival` says that this cut removes it. -/
def State.cut (s : State) (l : Lane) (b : LaneBody) (kind : CutKind) (kept removed : List Record) (takeArrival mapped : Bool) :
    State × CutReport :=
  let arrival := takeArrival && b.removableArrival
  let report : CutReport :=
    { frames := removed.length + (if arrival then 1 else 0), arrival := arrival, depth := kept.length }
  let (carried, dropped) := joinTail b.dl.carried (recordsCarry removed ++ b.spliceFor kind report)
  let b' :=
    { b with
      dl.records := kept
      dl.carried := carried
      dl.mark := markLeaves b.dl.mark (removed.map (·.seq)) .removed
      intake.arrival := if arrival then b.intake.arrival.map (·.markDiscard) else b.intake.arrival }
  ((((s.setBody l (some b')).freePages l (recordsPages removed)).dropPackets l false dropped).post (some l)
      (.dumpDone kind report.frames mapped), report)

/-- The seq of the oldest frame a cut removed, a record or the in-arrival frame; next-seq when it removed none (R148). -/
def LaneBody.oldestRemoved (b : LaneBody) (removed : List Record) : Seq :=
  match removed with
  | r :: _ => r.seq
  | [] => (b.intake.arrival.map (·.seq)).getD b.intake.nextSeq

/-- Whether a follower's seq lies in the leader's range [first, last] mapped through the offset (R148). -/
def inMappedRange (off first last x : Seq) : Bool := (x - (first - off)).toNat ≤ (last - first).toNat

/-- The discard-through value after a mapped cut (R149, step 3). -/
def raiseDiscard (v : Option Seq) (e : Seq) : Option Seq :=
  match v with
  | none => some e
  | some v => if laterThan e v then some e else some v

/-- A leader's cut of the range [first, last] mapped onto one follower (R149). -/
def State.mapCut (s : State) (f : Lane) (kind : CutKind) (first last : Seq) : State :=
  match s.body? f with
  | none => s
  | some b =>
    match b.link with
    | none => s
    | some k =>
      let hit (x : Seq) : Bool := inMappedRange k.off first last x
      let b' := { b with intake.discardThrough := raiseDiscard b.intake.discardThrough (last - k.off) }
      (s.cut f b' kind (b.dl.records.filter fun r => !hit r.seq) (b.dl.records.filter fun r => hit r.seq)
        ((b.intake.arrival.map fun a => hit a.seq).getD false) true).1

/-- A leader's LANE_EXIT NOW mapped onto one follower as a whole-line cut (R150); its pending count becomes 0. -/
def State.mapExit (s : State) (f : Lane) (last : Seq) : State :=
  match s.body? f with
  | none => s
  | some b =>
    match b.link with
    | none => s
    | some k =>
      let value := if k.leaderMoved then raiseDiscard b.intake.discardThrough (last - k.off) else b.intake.discardThrough
      let b' := { b with intake.discardThrough := value, link := some { k with pending := 0 } }
      (s.cut f b' .exit [] b.dl.records true true).1

/-- A cut on a lane, mapped onto each follower when it removed a frame (R148). -/
def State.leadCut (s : State) (l : Lane) (b : LaneBody) (kind : CutKind) (kept removed : List Record) (takeArrival : Bool) :
    State × CutReport :=
  let (t, report) := s.cut l b kind kept removed takeArrival false
  if report.frames = 0 then (t, report)
  else
    ((t.followersOf l).foldl
      (fun u f => u.mapCut f kind (b.oldestRemoved removed) (b.intake.nextSeq - 1)) t, report)

/-- A tail dump (R135, R136). -/
def State.dump (s : State) (l : Lane) : State × Answer :=
  onIndependent s l fun b =>
    if b.mode = .pass then (s, .refuse .notDelaying)
    else
      let n := min b.dumpSize b.h
      let (t, report) :=
        s.leadCut l b .dump (b.dl.records.take (b.h - n)) (b.dl.records.drop (b.h - n)) true
      (t, { result := if b.h < b.dumpSize then .partialCut else .ok, body := report.bytes })

/-- The split of a line that a cut to the mark makes: the records kept, those removed, and whether the in-arrival frame is
removed (R138 to R141). -/
def markCut (m : Mark) (records : List Record) : List Record × List Record × Bool :=
  match m.standing with
  | .held =>
    (records.takeWhile fun r => r.seq != m.seq, records.dropWhile fun r => r.seq != m.seq, true)
  | .arriving => (records, [], true)
  | .pending => (records, [], false)
  | .gone .removed =>
    (records.filter fun r => !laterThan r.seq m.seq, records.filter fun r => laterThan r.seq m.seq, true)
  | .gone .aired => ([], records, true)

/-- A cut to the mark (R138); the mark is cleared after it. -/
def State.cutToMark (s : State) (l : Lane) : State × Answer :=
  onIndependent s l fun b =>
    if b.mode = .pass then (s, .refuse .notDelaying)
    else
      match b.dl.mark with
      | none => (s, .refuse .noMark)
      | some m =>
        let (kept, removed, arrival) := markCut m b.dl.records
        let (t, report) := s.leadCut l b .mark kept removed arrival
        (t.modBody l fun c => { c with dl.mark := none },
          { result := if m.standing = .gone .aired then .markAired else .ok, body := report.bytes })

/-- LANE_EXIT NOW: the whole line is cut, the cut is mapped onto the followers, and the lane goes to PASS (R12, R143,
R150). -/
def State.exitNow (s : State) (l : Lane) : State × Answer :=
  onIndependent s l fun b =>
    if b.mode = .pass then (s, .refuse .notDelaying)
    else
      let (t, report) := s.cut l b .exit [] b.dl.records true false
      let t := (t.followersOf l).foldl (fun u f => u.mapExit f (b.intake.nextSeq - 1)) t
      let t := t.modBody l fun c => { c with gov := c.gov.entersPass }
      (t.changeMode l .pass .message, .ok report.bytes)

/-- LANE_EXIT GENTLE: a lane in BUILD, ON_TARGET or TRIM goes to DRAIN (R11). -/
def State.exitGentle (s : State) (l : Lane) (cause : Cause) : State × Answer :=
  onIndependent s l fun b =>
    let report : CutReport := { frames := 0, arrival := false, depth := b.h }
    match b.mode with
    | .pass => (s, .refuse .notDelaying)
    | .drain => (s, .ok report.bytes)
    | .build | .onTarget | .trim =>
      let g := if b.gov.engaged then b.gov else { b.gov with engaged := true, since := 0 }
      ((s.setBody l (some { b with gov := g })).changeMode l .drain cause, .ok report.bytes)

/-- LANE_ENTER (R9). -/
def State.enter (s : State) (l : Lane) (cause : Cause) : State × Answer :=
  onIndependent s l fun b =>
    match b.mode, b.timing.target with
    | .pass, none => (s, .refuse .noTarget)
    | .drain, none => (s, .refuse .noTarget)
    | .pass, some _ =>
      ((s.setBody l (some { b with gov := { b.gov with engaged := true, since := 0 } })).changeMode l .build cause, .ok [])
    | .drain, some t =>
      let dev := (t.frames : Int) - b.play.depth
      if dev = 0 then
        ((s.setBody l (some { b with gov := { b.gov with engaged := false } })).changeMode l .onTarget cause, .ok [])
      else (s.changeMode l (if 0 < dev then .build else .trim) cause, .ok [])
    | _, _ => (s, .ok [])

/-- LANE_MARK (R73): the reply gives the seq and standing set. -/
def State.setMark (s : State) (l : Lane) : State × Answer :=
  onIndependent s l fun b =>
    (s.setBody l (some { b with dl.mark := some b.newMark }),
      .ok (be32 b.newMark.seq.toNat ++ [standingByte (some b.newMark)]))

/-- A cover source asked for on a lane that is no follower, or taken away (R144); the reply gives the set after. -/
def State.requestCover (s : State) (l : Lane) (src : CoverSource) (on : Bool) : State × Answer :=
  onIndependent s l fun _ =>
    let t := if on then s.addSource l src else s.removeSource l src
    (t, .ok [coverByte (((t.body? l).map (·.dl.sources)).getD .empty)])

end Sys2Proof.Machine
end

