-- ==== Sys2Proof/Machine/LaneControl.lean ====
section
/-! DEFINITION. The Lane Controller's messages that configure, release, link and unlink a lane, and those that act on it
(01, 07): LANE_CONFIGURE, LANE_RELEASE, LANE_LINK, LANE_UNLINK, LANE_ENTER, LANE_EXIT, LANE_DUMP, LANE_MARK,
LANE_CUT_TO_MARK, LANE_COVER. -/

namespace Sys2Proof.Machine

/-! ### Configure (R1 to R5, R8, R22) -/

/-- The pages reserved to the lanes other than one (R3). -/
def Store.reservedElsewhere (st : Store) (l : Lane) : Nat :=
  ((allLanes.filter (· != l)).map st.budget.get).foldl (· + ·) 0

/-- A lane's budget set (R30). -/
def State.setBudget (s : State) (l : Lane) (n : Nat) : State :=
  { s with store := { s.store with budget := s.store.budget.set l n } }

/-- The timing settings recomputed from their milliseconds against a rate and M, and whether any was clamped (R22). -/
def Timing.recompute (t : Timing) (r : Fin 8) (m : Nat) : Timing × Bool :=
  let target := t.target.map fun x => targetSetting r m x.ms
  let dump := dumpSetting r m t.dump.ms
  let lead := leadSetting r m t.lead.ms
  ({ target := target.map (·.1), dump := dump.1, lead := lead.1 },
    (target.map (·.2)).getD false || dump.2 || lead.2)

/-- A configured lane reconfigured to a format and M: flushed, its settings and next-seq kept (R8, R67, R87, R110, R130). -/
def LaneBody.reconfigured (b : LaneBody) (fmt : Format) (m : Nat) : LaneBody :=
  { b with
    fmt := fmt
    maxH := m
    mode := .pass
    timing := (b.timing.recompute fmt.rate m).1
    gov := .fresh
    intake := { b.intake with arrival := none, discardThrough := none, ticksSince := 0, owed := 0 }
    dl := .fresh
    play := .fresh b.play.fill }

/-- A lane linked in either role (R6, step 3). -/
def State.isLinked (s : State) (l : Lane) : Bool := (s.leaderOf? l).isSome || !(s.followersOf l).isEmpty

/-- LANE_CONFIGURE of a lane (R1, R3, R5, R8). -/
def State.configure (s : State) (l : Lane) (fmt : Format) (requested : Nat) (force : Bool) : State × Answer :=
  let budget := max requested (6 * pagesPerFrame fmt.vclass)
  let raised := budget != requested
  let m := maxRecords budget fmt.vclass
  let granted := be24 budget ++ be16 m
  let available := decide (budget + s.store.reservedElsewhere l ≤ Config.poolPages)
  match s.body? l with
  | none =>
    if !available then (s, .refuse .noPages)
    else
      let t := { s with lanes := s.lanes.set l { counters := .zero, body := some (.fresh fmt m) } }
      ((t.setBudget l budget).post (some l) (.laneState (some .pass) .message), .applied raised granted)
  | some b =>
    if s.isLinked l then (s, .refuse .linked)
    else if b.mode.delaying && !force then (s, .refuse .laneActive)
    else if !available then (s, .refuse .noPages)
    else
      let t := (s.setBody l (some (b.reconfigured fmt m))).freePages l b.pages
      ((t.setBudget l budget).post (some l) (.laneState (some .pass) .restarted),
        .applied (raised || (b.timing.recompute fmt.rate m).2) granted)

/-- LANE_CONFIGURE's body: lane, rate code, video class, channel count, budget, force (R183). -/
def configureMessage : Handler := fun s _ body =>
  match body with
  | [l, r, v, c, b2, b1, b0, f] =>
    withLane s l fun l =>
      match rateOf r, classOf v, channelsOf c, boolOf f with
      | some rate, some vclass, some channels, some force =>
        s.configure l { rate := rate, vclass := vclass, channels := channels } (nat24 b2 b1 b0) force
      | _, _, _, _ => (s, .refuse .badArgument)
  | _ => (s, .refuse .badLength)

/-! ### Link, unlink and release (R14, R23 to R26, R147) -/

/-- A follower becomes independent (R26, R147). -/
def State.makeIndependent (s : State) (f : Lane) : State :=
  match s.body? f with
  | none => s
  | some b =>
    let free := { b with link := none, intake.discardThrough := none }.uncover .leader
    let orphan := (b.mode == .build || b.mode == .onTarget || b.mode == .trim) && b.timing.target.isNone
    let mode := if orphan then .drain else b.mode
    let t := s.setBody f (some { free with gov := { b.gov with engaged := mode == .drain, since := 0 } })
    if orphan then t.putMode f .drain .unlinked else t

/-- LANE_LINK (R23, R24, R147). -/
def State.linkLanes (s : State) (f l : Lane) : State × Answer :=
  onConfigured s f fun fb =>
    onConfigured s l fun lb =>
      if f ≠ l ∧ fb.mode = .pass ∧ lb.mode = .pass ∧ fb.fmt.rate = lb.fmt.rate ∧ lb.link = none ∧ fb.link = none ∧
          s.followersOf f = [] then
        let off := lb.intake.nextSeq - fb.intake.nextSeq
        let fb' := { fb with
          link := some { leader := l, off := off, pending := 0, leaderMoved := false }
          intake.discardThrough := none }
        (s.setBody f (some (if lb.dl.sources.isEmpty then fb' else fb'.cover .leader)), .ok (be32 off.toNat))
      else (s, .refuse .linkRefused)

/-- LANE_UNLINK (R26). -/
def State.unlink (s : State) (f : Lane) : State × Answer :=
  onConfigured s f fun b => if b.link.isSome then (s.makeIndependent f, .ok []) else (s, .ok [])

/-- LANE_RELEASE (R14): followers are made independent, the lane is flushed and goes to OFF; its counters stay. -/
def State.release (s : State) (l : Lane) : State × Answer :=
  match s.body? l with
  | none => (s, .ok [])
  | some b =>
    let t := (s.followersOf l).foldl State.makeIndependent s
    let t := ((t.setBody l none).freePages l b.pages).setBudget l 0
    (t.post (some l) (.laneState none .message), .ok [])

/-- A message whose body is a lane alone. -/
def laneMessage (k : State → Lane → State × Answer) : Handler := fun s _ body =>
  match body with
  | [l] => withLane s l (k s)
  | _ => (s, .refuse .badLength)

/-- LANE_LINK's body: the follower, then the leader. -/
def linkMessage : Handler := fun s _ body =>
  match body with
  | [f, l] => withLane s f fun f => withLane s l fun l => s.linkLanes f l
  | _ => (s, .refuse .badLength)

/-- LANE_EXIT's body: the lane and the form, GENTLE 0 or NOW 1 (R185). -/
def exitMessage : Handler := fun s _ body =>
  match body with
  | [l, form] =>
    withLane s l fun l =>
      match boolOf form with
      | none => (s, .refuse .badArgument)
      | some false => s.exitGentle l .message
      | some true => s.exitNow l
  | _ => (s, .refuse .badLength)

/-- LANE_COVER's body: the lane and off 0 or on 1 (R144, R185). -/
def coverMessage : Handler := fun s _ body =>
  match body with
  | [l, v] =>
    withLane s l fun l =>
      match boolOf v with
      | none => (s, .refuse .badArgument)
      | some on => s.requestCover l .control on
  | _ => (s, .refuse .badLength)

/-- A row that shares its code with another takes the requests of its own form, and those of neither form (log 24). -/
def hasForm (code : Byte) (other : Byte) (at' : Nat) (r : Request) : Bool :=
  r.code == code && r.body[at']? != some other

/-! ### The commands -/

/-- LANE_CONFIGURE (R8). -/
def execLaneConfigure (s : State) : Host.Outcome State Fault Refusal :=
  .next (s.execute (hasCode 0x20) (lengthIs 8) controllerOnly configureMessage)

/-- LANE_RELEASE (R14). -/
def execLaneRelease (s : State) : Host.Outcome State Fault Refusal :=
  .next (s.execute (hasCode 0x21) (lengthIs 1) controllerOnly (laneMessage State.release))

/-- LANE_ENTER (R9). -/
def execLaneEnter (s : State) : Host.Outcome State Fault Refusal :=
  .next (s.execute (hasCode 0x28) (lengthIs 1) controllerOnly (laneMessage fun s l => s.enter l .message))

/-- LANE_EXIT with the form GENTLE (R11). -/
def execLaneExitGentle (s : State) : Host.Outcome State Fault Refusal :=
  .next (s.execute (hasForm 0x29 1 1) (lengthIs 2) controllerOnly exitMessage)

/-- LANE_EXIT with the form NOW (R12, R143). -/
def execLaneExitNow (s : State) : Host.Outcome State Fault Refusal :=
  .next (s.execute (hasForm 0x29 0 1) (lengthIs 2) controllerOnly exitMessage)

/-- LANE_DUMP (R135). -/
def execLaneDump (s : State) : Host.Outcome State Fault Refusal :=
  .next (s.execute (hasCode 0x2A) (lengthIs 1) controllerOnly (laneMessage State.dump))

/-- LANE_MARK (R73). -/
def execLaneMark (s : State) : Host.Outcome State Fault Refusal :=
  .next (s.execute (hasCode 0x2B) (lengthIs 1) controllerOnly (laneMessage State.setMark))

/-- LANE_CUT_TO_MARK (R138). -/
def execLaneCutToMark (s : State) : Host.Outcome State Fault Refusal :=
  .next (s.execute (hasCode 0x2C) (lengthIs 1) controllerOnly (laneMessage State.cutToMark))

/-- LANE_COVER on (R144). -/
def execLaneCoverOn (s : State) : Host.Outcome State Fault Refusal :=
  .next (s.execute (hasForm 0x2D 0 1) (lengthIs 2) controllerOnly coverMessage)

/-- LANE_COVER off (R144). -/
def execLaneCoverOff (s : State) : Host.Outcome State Fault Refusal :=
  .next (s.execute (hasForm 0x2D 1 1) (lengthIs 2) controllerOnly coverMessage)

/-- LANE_LINK (R23). -/
def execLaneLink (s : State) : Host.Outcome State Fault Refusal :=
  .next (s.execute (hasCode 0x2E) (lengthIs 2) controllerOnly linkMessage)

/-- LANE_UNLINK (R26). -/
def execLaneUnlink (s : State) : Host.Outcome State Fault Refusal :=
  .next (s.execute (hasCode 0x2F) (lengthIs 1) controllerOnly (laneMessage State.unlink))

end Sys2Proof.Machine
end

