-- ==== Sys2Proof/Machine/LaneSettings.lean ====
section
/-! DEFINITION. The lane's setting messages and its report: LANE_TIMING, LANE_GOVERNOR, LANE_ROUTES, LANE_WATCH,
LANE_COVER_FILL, LANE_SPLICE, LANE_STATUS (R18 to R22, R56, R59, R103, R122, R133, R183, R184). -/

namespace Sys2Proof.Machine

/-! ### LANE_TIMING -/

/-- A given time lowered to 60,000 ms (R18). -/
def capMs (ms : Nat) : Nat := min ms 60000

/-- A setting as reported: frames, then the frames as milliseconds (R18, R21). -/
def settingBytes (r : Fin 8) (frames : Nat) : List Byte := be16 frames ++ be16 (toMs r frames)

/-- The target in frames as reported, 0 while unset (R183). -/
def Timing.targetFrames (t : Timing) : Nat := (t.target.map (·.frames)).getD 0

/-- LANE_TIMING (R18 to R20). -/
def State.setTiming (s : State) (l : Lane) (target dump lead : Nat) : State × Answer :=
  onIndependent s l fun b =>
    let r := b.fmt.rate
    let tgt := targetSetting r b.maxH (capMs target)
    let dmp := dumpSetting r b.maxH (capMs dump)
    let led := leadSetting r b.maxH (capMs lead)
    let t : Timing :=
      { target := if target = 0 then b.timing.target else some tgt.1, dump := dmp.1, lead := led.1 }
    let clamped := 60000 < target || 60000 < dump || 60000 < lead || (target != 0 && tgt.2) || dmp.2 || led.2
    (s.setBody l (some { b with timing := t }),
      .applied clamped
        (settingBytes r t.targetFrames ++ settingBytes r t.dump.frames ++ settingBytes r t.lead.frames))

/-- LANE_TIMING's body: the lane, then target, dump size and cover lead in ms (R183). -/
def timingMessage : Handler := fun s _ body =>
  match body with
  | [l, t1, t0, d1, d0, c1, c0] => withLane s l fun l => s.setTiming l (nat16 t1 t0) (nat16 d1 d0) (nat16 c1 c0)
  | _ => (s, .refuse .badLength)

/-! ### LANE_GOVERNOR -/

/-- The governor settings brought into range (R122). -/
def GovSettings.clamp (g : GovSettings) : GovSettings :=
  let s := max 1 (min g.s 250)
  { threshold := min g.threshold 8388607
    mask := g.mask
    q := max 1 (min g.q 60)
    s := s
    f := if g.f = 0 then 0 else min (max g.f s) 6000
    e := max 1 (min g.e 250) }

/-- The six governor settings as bytes (R183). -/
def GovSettings.bytes (g : GovSettings) : List Byte :=
  be24 g.threshold ++ be16 g.mask.toNat ++ [BitVec.ofNat 8 g.q, BitVec.ofNat 8 g.s] ++ be16 g.f ++ [BitVec.ofNat 8 g.e]

/-- LANE_GOVERNOR (R122). -/
def State.setGovernor (s : State) (l : Lane) (g : GovSettings) : State × Answer :=
  onConfigured s l fun b =>
    (s.setBody l (some { b with govSet := g.clamp }), .applied (g.clamp != g) g.clamp.bytes)

/-- LANE_GOVERNOR's body: the lane, threshold, mask, Q, S, F, E (R183). -/
def governorMessage : Handler := fun s _ body =>
  match body with
  | [l, t2, t1, t0, m1, m0, q, sp, f1, f0, e] =>
    withLane s l fun l =>
      s.setGovernor l
        { threshold := nat24 t2 t1 t0, mask := type16 m1 m0, q := q.toNat, s := sp.toNat, f := nat16 f1 f0, e := e.toNat }
  | _ => (s, .refuse .badLength)

/-! ### LANE_ROUTES and LANE_WATCH -/

/-- LANE_ROUTES (R56): the table and default class replaced as a whole. -/
def State.setRoutes (s : State) (l : Lane) (dflt : PacketClass) (entries : List RouteEntry) : State × Answer :=
  onConfigured s l fun b =>
    if entries.any fun e => e.high.toNat < e.low.toNat then (s, .refuse .badArgument)
    else (s.setBody l (some { b with intake.routes := entries, intake.defaultClass := dflt }), .ok [])

/-- LANE_ROUTES' body: the lane, the default class, the entries (R183). -/
def routesMessage : Handler := fun s _ body =>
  match body with
  | l :: d :: rest =>
    withLane s l fun l =>
      match packetClassOf d, routeEntriesOf rest with
      | some dflt, some entries => s.setRoutes l dflt entries
      | _, _ => (s, .refuse .badArgument)
  | _ => (s, .refuse .badLength)

/-- The lengths of LANE_ROUTES: 2 + 5n for n = 0..8 (R179). -/
def routesLength (n : Nat) : Bool := 2 ≤ n && (n - 2) % 5 == 0 && n ≤ 42

/-- LANE_WATCH (R59): the watch list replaced as a whole. -/
def State.setWatch (s : State) (l : Lane) (entries : List (Nat × WatchEntry)) : State × Answer :=
  onConfigured s l fun b =>
    if entries.any fun e => 4 < e.1 then (s, .refuse .badArgument)
    else (s.setBody l (some { b with intake.watch := entries.map (·.2) }), .ok [])

/-- LANE_WATCH's body: the lane and the entries (R183). -/
def watchMessage : Handler := fun s _ body =>
  match body with
  | l :: rest =>
    withLane s l fun l =>
      match watchEntriesOf rest with
      | some entries => s.setWatch l entries
      | none => (s, .refuse .badArgument)
  | _ => (s, .refuse .badLength)

/-- The lengths of LANE_WATCH: 1 + 8n for n = 0..4 (R179). -/
def watchLength (n : Nat) : Bool := 1 ≤ n && (n - 1) % 8 == 0 && n ≤ 33

/-! ### LANE_COVER_FILL and LANE_SPLICE -/

/-- The cover fill as bytes (R183). -/
def CoverFill.bytes (f : CoverFill) : List Byte := fillKindByte f.kind :: be24 f.amplitude ++ be16 f.mask.toNat

/-- LANE_COVER_FILL (R103). -/
def State.setFill (s : State) (l : Lane) (kind : FillKind) (amplitude : Nat) (mask : BitVec 16) : State × Answer :=
  onConfigured s l fun b =>
    let f : CoverFill := { kind := kind, amplitude := min amplitude 8388607, mask := mask }
    (s.setBody l (some { b with play.fill := f }), .applied (8388607 < amplitude) f.bytes)

/-- LANE_COVER_FILL's body: the lane, kind, amplitude, mask (R183). -/
def fillMessage : Handler := fun s _ body =>
  match body with
  | [l, k, a2, a1, a0, m1, m0] =>
    withLane s l fun l =>
      match fillKindOf k with
      | none => (s, .refuse .badArgument)
      | some kind => s.setFill l kind (nat24 a2 a1 a0) (type16 m1 m0)
  | _ => (s, .refuse .badLength)

/-- The splice setting as bytes (R183). -/
def Splice.bytes (x : Splice) : List Byte := boolByte x.enabled :: be16 x.type.toNat

/-- LANE_SPLICE (R133). -/
def State.setSplice (s : State) (l : Lane) (x : Splice) : State × Answer :=
  onConfigured s l fun b => (s.setBody l (some { b with splice := x }), .ok x.bytes)

/-- LANE_SPLICE's body: the lane, enable, packet type (R183). -/
def spliceMessage : Handler := fun s _ body =>
  match body with
  | [l, e, t1, t0] =>
    withLane s l fun l =>
      match boolOf e with
      | none => (s, .refuse .badArgument)
      | some enabled => s.setSplice l { enabled := enabled, type := type16 t1 t0 }
  | _ => (s, .refuse .badLength)

/-! ### LANE_STATUS (R184) -/

/-- The lane mask of a lane's followers (R184). -/
def State.followersByte (s : State) (l : Lane) : Byte := bitsByte (allLanes.map fun f => s.leaderOf? f == some l)

/-- View 0, the state of a configured lane: 37 bytes after the view byte (R184). The target while unset and the dump size in
whole-line mode are shown as 0 frames and 0 ms, as R183 has a LANE_TIMING reply give them: the model's choice (log 33). -/
def State.stateView (s : State) (l : Lane) (b : LaneBody) : List Byte :=
  let r := b.fmt.rate
  [stateByte (some b.mode), b.flags] ++ be16 b.h ++ be16 b.play.depth ++ be24 (toMs r b.play.depth)
    ++ be16Int b.reportedDev ++ settingBytes r b.timing.targetFrames ++ settingBytes r b.timing.dump.frames
    ++ be16 b.timing.lead.frames ++ be32 ((b.dl.mark.map (·.seq.toNat)).getD 0)
    ++ [standingByte b.dl.mark, coverByte b.dl.sources, BitVec.ofNat 8 b.play.quietRun] ++ be16 b.gov.since
    ++ [BitVec.ofInt 8 b.pendingCount, laneByte (b.link.map (·.leader)), s.followersByte l]
    ++ be16 b.gov.inserts ++ be16 b.gov.skips

/-- View 1, the ten lane counters (R184). -/
def LaneCounters.bytes (c : LaneCounters) : List Byte :=
  [c.underrun, c.overflow, c.slip, c.damaged, c.malformed, c.formatMismatch, c.ancDropped, c.ancLost, c.carryLost,
    c.linkSlip].flatMap be16

/-- View 2, the settings of a configured lane: 27 bytes after the view byte (R184). -/
def State.settingsView (s : State) (l : Lane) (b : LaneBody) : List Byte :=
  [BitVec.ofNat 8 b.fmt.rate.val, classByte b.fmt.vclass, BitVec.ofNat 8 b.fmt.channels.toNat]
    ++ be24 (s.store.budget.get l) ++ be16 b.maxH ++ b.govSet.bytes ++ b.play.fill.bytes ++ b.splice.bytes

/-- The body of a LANE_STATUS reply, `none` for a view outside 0..2; an OFF lane reports zeros but for its counters. -/
def State.laneView (s : State) (l : Lane) (view : Byte) : Option (List Byte) :=
  if view = 0 then some (view :: (((s.body? l).map (s.stateView l)).getD (List.replicate 37 0)))
  else if view = 1 then some (view :: (s.lanes.get l).counters.bytes)
  else if view = 2 then some (view :: (((s.body? l).map (s.settingsView l)).getD (List.replicate 27 0)))
  else none

/-- A lane's ten counters set to 0 (R184). -/
def State.clearCounters (s : State) (l : Lane) : State :=
  { s with lanes := s.lanes.set l { s.lanes.get l with counters := .zero } }

/-- LANE_STATUS' body: the lane, the view, the clear flag (R184). -/
def statusMessage : Handler := fun s _ body =>
  match body with
  | [l, v, c] =>
    withLane s l fun l =>
      match s.laneView l v, boolOf c with
      | some bytes, some clear => (if clear then s.clearCounters l else s, .ok bytes)
      | _, _ => (s, .refuse .badArgument)
  | _ => (s, .refuse .badLength)

/-- The observer may send a status request whose clear flag, its last byte, is 0 (R172, R179). -/
def clearNeedsController (s : State) (p : Port) (body : List Byte) : Bool :=
  s.controls p || body.getLast? == some 0

/-! ### The commands -/

/-- LANE_TIMING (R18). -/
def execLaneTiming (s : State) : Host.Outcome State Fault Refusal :=
  .next (s.execute (hasCode 0x22) (lengthIs 7) controllerOnly timingMessage)

/-- LANE_GOVERNOR (R122). -/
def execLaneGovernor (s : State) : Host.Outcome State Fault Refusal :=
  .next (s.execute (hasCode 0x23) (lengthIs 11) controllerOnly governorMessage)

/-- LANE_ROUTES (R56). -/
def execLaneRoutes (s : State) : Host.Outcome State Fault Refusal :=
  .next (s.execute (hasCode 0x24) routesLength controllerOnly routesMessage)

/-- LANE_WATCH (R59). -/
def execLaneWatch (s : State) : Host.Outcome State Fault Refusal :=
  .next (s.execute (hasCode 0x25) watchLength controllerOnly watchMessage)

/-- LANE_COVER_FILL (R103). -/
def execLaneCoverFill (s : State) : Host.Outcome State Fault Refusal :=
  .next (s.execute (hasCode 0x26) (lengthIs 7) controllerOnly fillMessage)

/-- LANE_SPLICE (R133). -/
def execLaneSplice (s : State) : Host.Outcome State Fault Refusal :=
  .next (s.execute (hasCode 0x27) (lengthIs 4) controllerOnly spliceMessage)

/-- LANE_STATUS (R184). -/
def execLaneStatus (s : State) : Host.Outcome State Fault Refusal :=
  .next (s.execute (hasCode 0x30) (lengthIs 3) clearNeedsController statusMessage)

end Sys2Proof.Machine
end

