-- ==== Sys2Proof/Machine/StoreUnit.lean ====
section
/-! DEFINITION. The Frame Store's messages and the page write event (02): STORE_STATUS, STORE_CLEAR_COUNTS, STORE_INJECT,
PAGE_WRITE_COMPLETE. -/

namespace Sys2Proof.Machine

/-- The eight banks in order. -/
def allBanks : List (Fin 8) := List.finRange 8

/-- The pool view of STORE_STATUS: 36 bytes (R41, R182). -/
def Store.poolView (st : Store) : List Byte :=
  0 :: be24 (freeCount st.free) ++ allLanes.flatMap (fun l => be24 (st.budget.get l))
    ++ allLanes.flatMap (fun l => be24 (st.inUse.get l)) ++ allBanks.map fun k => armByte (st.banks.get k).arm

/-- The banks view of STORE_STATUS: 49 bytes (R41, R182). -/
def Store.banksView (st : Store) : List Byte :=
  1 :: allBanks.flatMap fun k =>
    let b := st.banks.get k
    be16 b.correctedData ++ be16 b.correctedCheck ++ be16 b.uncorrectable

/-- STORE_STATUS' body: the view (R182). -/
def storeStatusMessage : Handler := fun s _ body =>
  match body with
  | [v] =>
    if v = 0 then (s, .ok s.store.poolView)
    else if v = 1 then (s, .ok s.store.banksView)
    else (s, .refuse .badArgument)
  | _ => (s, .refuse .badLength)

/-- A bank's counters at 0, its arm kept (R38). -/
def Bank.clearCounts (b : Bank) : Bank := { b with correctedData := 0, correctedCheck := 0, uncorrectable := 0 }

/-- STORE_CLEAR_COUNTS (R38). -/
def clearCountsMessage : Handler := fun s _ _ =>
  ({ s with store := { s.store with banks := s.store.banks.map Bank.clearCounts } }, .ok [])

/-- STORE_INJECT's body: bank, size, field (R39, R182). -/
def injectMessage : Handler := fun s _ body =>
  match body with
  | [k, z, f] =>
    match bankOfByte k, errSizeOf z, errFieldOf f with
    | some bank, some size, some field =>
      if (s.store.banks.get bank).arm.isSome then (s, .refuse .busy)
      else
        ({ s with store :=
            s.store.setBank bank { s.store.banks.get bank with arm := some { size := size, field := field } } },
          .ok [k, z, f])
    | _, _, _ => (s, .refuse .badArgument)
  | _ => (s, .refuse .badLength)

/-- STORE_STATUS (R41). -/
def execStoreStatus (s : State) : Host.Outcome State Fault Refusal :=
  .next (s.execute (hasCode 0x07) (lengthIs 1) eitherPort storeStatusMessage)

/-- STORE_CLEAR_COUNTS (R38). -/
def execStoreClearCounts (s : State) : Host.Outcome State Fault Refusal :=
  .next (s.execute (hasCode 0x08) (lengthIs 0) controllerOnly clearCountsMessage)

/-- STORE_INJECT (R39). -/
def execStoreInject (s : State) : Host.Outcome State Fault Refusal :=
  .next (s.execute (hasCode 0x09) (lengthIs 3) controllerOnly injectMessage)

/-- The next video page of a lane's in-arrival frame whose part of the raster has arrived: none unless the frame carries a
raster of the lane's class (R35). -/
def LaneBody.nextVideoPage (b : LaneBody) : Option PageNo :=
  b.intake.arrival.bind fun f =>
    if rasterMatches b.fmt.vclass f.raster then (videoPages b.fmt.vclass f.pages)[f.written]? else none

/-- PAGE_WRITE_COMPLETE (R35, R40): the next video page of the lane's in-arrival frame, in raster order, completes its
write. Where no page is being written nothing changes (log 2). -/
def execPageWriteComplete (l : Lane) (s : State) : Host.Outcome State Fault Refusal :=
  .next
    (match (s.body? l).bind LaneBody.nextVideoPage with
     | none => s
     | some p =>
       ({ s with store := s.store.writePage p } : State).modBody l fun b =>
         { b with intake.arrival := b.intake.arrival.map fun f => { f with written := f.written + 1 } })

end Sys2Proof.Machine
end

