-- ==== Sys2Proof/WellFormed.lean ====
section
/-! DEFINITION. Which commands an input link can give: a packet has a payload of 0 to 255 bytes (3.3) and a frame at most
16 audio channels (00_scope.md section 1). Every other command is well formed by its type. -/

namespace Sys2Proof

/-- A packet's payload has 0 to 255 bytes (3.3). -/
def payloadOk (payload : List Byte) : Bool := payload.length ≤ 255

/-- A frame carries up to 16 channels of audio (00_scope.md section 1). -/
def Delivery.ok (d : Delivery) : Bool := d.audio.length ≤ 16

/-- The well-formed commands. -/
def Instr.wf : Instr → Bool
  | .packetArrival _ _ payload => payloadOk payload
  | .arrivalStart _ _ d => d.ok
  | .arrivalCompletion _ d => d.ok
  | .powerUp _ | .resetN _ | .receiveByte _ _ _ | .gapExpiry _ | .unknownMessage | .identify | .unitStatus | .restart
  | .restartEffect | .takeControl | .setTakeover | .setNotices | .storeStatus | .storeClearCounts | .storeInject
  | .pageWriteComplete _ | .panelLockOn | .panelLockOff | .panelBindIn | .panelBindOut | .panelDrive | .panelStatus
  | .panelSample _ _ | .panelEdge _ _ | .laneConfigure | .laneRelease | .laneTiming | .laneGovernor | .laneRoutes
  | .laneWatch | .laneCoverFill | .laneSplice | .laneEnter | .laneExitGentle | .laneExitNow | .laneDump | .laneMark
  | .laneCutToMark | .laneCoverOn | .laneCoverOff | .laneLink | .laneUnlink | .laneStatus | .laneTick _ _
  | .inputLossDeclared _ _ | .governorForce _ _ | .referencePulse _ | .referenceLost | .transmitReply _
  | .transmitNotice _ => true

end Sys2Proof
end

