-- ==== Sys2Proof/Machine/FrameIntake.lean ====
section
/-! DEFINITION. Frame Intake (03): ARRIVAL_START, PACKET_ARRIVAL, ARRIVAL_COMPLETION, and Frame Intake's work at a tick:
input loss and fill frames. -/

namespace Sys2Proof.Machine

/-! ### The full-line check (R7, R44) -/

/-- The length at which a lane's line is full: 2 in PASS, M in a delaying state (R44). -/
def LaneBody.lineLimit (b : LaneBody) : Nat := if b.mode = .pass then 2 else b.maxH

/-- How many heads a full-line check discards: until H is below the limit (R44). -/
def LaneBody.excess (b : LaneBody) : Nat := if b.h < b.lineLimit then 0 else b.h + 1 - b.lineLimit

/-- Records removed at the head one after another, each one's batch joining the front of the departure packet list: the
list, and the packets dropped in all (R83). -/
def headBatches (list : List Packet) : List Record → List Packet × List Packet
  | [] => (list, [])
  | r :: rest =>
    let (joined, dropped) := joinFront list r.carryCopy
    let (final, more) := headBatches joined rest
    (final, dropped ++ more)

/-- The full-line check: heads are discarded while the line is full, counted OVERFLOW with a notice each in a delaying
state and SLIP in PASS (R44). -/
def State.fullLineCheck (s : State) (l : Lane) : State :=
  match s.body? l with
  | none => s
  | some b =>
    let gone := b.dl.records.take b.excess
    let (departing, dropped) := headBatches b.dl.departing gone
    let b' :=
      { b with
        dl.records := b.dl.records.drop b.excess
        dl.departing := departing
        dl.mark := markLeaves b.dl.mark (gone.map (·.seq)) .removed }
    let t := ((s.setBody l (some b')).freePages l (recordsPages gone)).dropPackets l true dropped
    if b.mode = .pass then t.count l .slip gone.length
    else
      gone.foldl (fun u r => u.post (some l) (.overflow r.seq)) (t.count l .overflow gone.length)

/-! ### Arrival completion (R46 to R52, R66) -/

/-- Whether delivered channels carry one legal count, and that count (R49). -/
def deliveredCount (fmt : Format) (audio : List (Option (List Sample))) : Option Nat :=
  match (audio.take fmt.channels.toNat).filterMap id with
  | [] => none
  | x :: rest => if rest.all (·.length == x.length) && legalCount fmt.rate x.length then some x.length else none

/-- The audio stored: each configured channel's samples, silence where the link did not deliver it (R49). -/
def storedAudio (fmt : Format) (audio : List (Option (List Sample))) (n : Nat) : List (List Sample) :=
  (List.range fmt.channels.toNat).map fun i => ((audio[i]?).join).getD (List.replicate n 0)

/-- The record of a completed frame (R49 to R52). -/
def LaneBody.recordOf (b : LaneBody) (f : InArrival) (d : Delivery) (goodVideo : Bool) : Record :=
  let count := deliveredCount b.fmt d.audio
  let audio := (count.map (storedAudio b.fmt d.audio)).getD []
  { seq := f.seq
    origin := .received
    pages := f.pages
    samples := count.getD (cadence b.fmt.rate 0)
    audioState := if count.isSome then .normal else .malformed
    level := levelOf b.govSet.mask b.fmt.channels.toNat audio
    covered := f.covered
    carriedPrefix := b.dl.carried
    own := f.own
    damage := none
    picture := if goodVideo then .received d.picture else .black
    audio := audio
    carryCopy := b.dl.carried ++ f.carryCopy }

/-- The pages whose writes complete at a frame's completion, in order: the video pages left of a whole raster of the lane's
class, or every video page of a black write, and the audio/packet page (R35, R50; logs 10, 11). -/
def completionWrites (c : VideoClass) (f : InArrival) (d : Delivery) (goodVideo : Bool) : List PageNo :=
  let video := videoPages c f.pages
  if goodVideo then video.drop f.written ++ audioPages c f.pages
  else if f.discard then audioPages c f.pages
  else if d.audioPageFirst then audioPages c f.pages ++ video
  else video ++ audioPages c f.pages

/-- An in-arrival frame's completion, whole or truncated (R46, R47). -/
def State.completeFrame (s : State) (l : Lane) (b : LaneBody) (f : InArrival) (d : Delivery) (truncated : Bool) : State :=
  let goodVideo := rasterMatches b.fmt.vclass f.raster && d.whole && !truncated
  let s := if b.intake.loss then s.post (some l) (.input true) else s
  let s := { s with store := s.store.writePages (completionWrites b.fmt.vclass f d goodVideo) }
  let after :=
    { b with
      intake.arrival := none
      intake.ticksSince := 0
      intake.loss := false
      intake.owed := if b.intake.loss then 0 else b.intake.owed }
  if f.discard then
    let (carried, dropped) := joinTail b.dl.carried f.carryCopy
    let b' := { after with dl.carried := carried, dl.mark := markArrives b.dl.mark f.seq (.gone .removed) }
    ((s.setBody l (some b')).freePages l f.pages).dropPackets l false dropped
  else
    let r := b.recordOf f d goodVideo
    let b' :=
      { after with
        dl.records := b.dl.records ++ [r]
        dl.carried := []
        dl.mark := markArrives b.dl.mark f.seq .held }
    let t := s.setBody l (some b')
    let t := if r.audioState = .malformed then t.count l .malformed 1 else t
    if b.fmt.vclass ≠ .audioOnly ∧ !goodVideo then t.count l .formatMismatch 1 else t

/-- ARRIVAL_COMPLETION (R47); one that belongs to no frame the lane has taken is ignored. -/
def execArrivalCompletion (l : Lane) (d : Delivery) (s : State) : Host.Outcome State Fault Refusal :=
  if !d.ok then .refused .illFormed
  else
    match s.body? l with
    | none => .next s
    | some b =>
      match b.intake.arrival with
      | none => .next s
      | some f => .next (s.completeFrame l b f d false)

/-! ### Arrival start (R43, R46, R60, R61) -/

/-- A frame in arrival when the next one starts is completed as a truncated arrival (R46). -/
def State.truncateArrival (s : State) (l : Lane) (d : Delivery) : State :=
  match s.body? l with
  | none => s
  | some b =>
    match b.intake.arrival with
    | none => s
    | some f => s.completeFrame l b f d true

/-- The frame that starts (R43, steps 2 to 7): its pages, seq, cover flag and discard mark. -/
def State.beginFrame (s : State) (l : Lane) (b : LaneBody) (raster : Raster) (pages : List PageNo) : State :=
  let q := b.intake.nextSeq
  let (discard, value) := discardTest b q
  let f : InArrival :=
    { seq := q, pages := pages, covered := !b.dl.sources.isEmpty, discard := discard, ticksSeen := 0, accepted := 0
      own := [], carryCopy := [], raster := raster, written := 0 }
  (s.setBody l (some { b with
    intake.arrival := some f
    intake.discardThrough := value
    dl.mark := markStarts b.dl.mark q .arriving })).takeSeq l

/-- ARRIVAL_START (R43, R46); ignored on an OFF lane (R4). -/
def execArrivalStart (l : Lane) (raster : Raster) (cutShort : Delivery) (s : State) : Host.Outcome State Fault Refusal :=
  if !cutShort.ok then .refused .illFormed
  else
    let t := (s.truncateArrival l cutShort).fullLineCheck l
    match t.body? l with
    | none => .next s
    | some b =>
      match t.store.allocate l (pagesPerFrame b.fmt.vclass) with
      | none => .fault .poolExhausted
      | some (pages, store) => .next ({ t with store := store }.beginFrame l b raster pages)

/-! ### Packets (R53 to R58) -/

/-- The class of an accepted packet: the first route table entry that matches, else the default (R54). -/
def Intake.classOf (i : Intake) (ty : PacketType) : PacketClass :=
  ((i.routes.find? fun e => e.low.toNat ≤ ty.toNat && ty.toNat ≤ e.high.toNat).map (·.cls)).getD i.defaultClass

/-- Whether a packet matches a watch entry (R57). -/
def WatchEntry.hits (e : WatchEntry) (ty : PacketType) (payload : List Byte) : Bool :=
  e.type == ty && payload.take e.bytes.length == e.bytes

/-- A hit of watch entry i on the frame with a seq: WATCH_HIT is posted, and an independent lane or leader takes the action
(R58, R27). -/
def State.watchHit (s : State) (l : Lane) (seq : Seq) (i : Nat) (action : WatchAction) : State :=
  let t := s.post (some l) (.watchHit i seq)
  if (s.leaderOf? l).isSome then t
  else
    match action with
    | .mark => t.modBody l fun b => { b with dl.mark := some { seq := seq, standing := .arriving } }
    | .coverOn => t.addSource l .watch
    | .coverOff => t.removeSource l .watch
    | .notify => t

/-- A packet tested against every watch entry, hits acting in ascending index order (R57, R58). -/
def State.watchPacket (s : State) (l : Lane) (seq : Seq) (ty : PacketType) (payload : List Byte) :
    Nat → List WatchEntry → State
  | _, [] => s
  | i, e :: rest =>
    (if e.hits ty payload then s.watchHit l seq i e.action else s).watchPacket l seq ty payload (i + 1) rest

/-- An accepted packet handled by its class (R55, R70). -/
def State.routePacket (s : State) (l : Lane) (b : LaneBody) (f : InArrival) (ty : PacketType) (payload : List Byte) :
    State :=
  let f := { f with accepted := f.accepted + 1 }
  let keep (carry : Bool) : InArrival :=
    let p : OwnPacket := { carry := carry, type := ty, payload := payload }
    { f with own := f.own ++ [p], carryCopy := f.carryCopy ++ carryOwn [p] }
  match b.intake.classOf ty with
  | .live =>
    let (departing, dropped) := joinTail b.dl.departing [{ source := .live, type := ty, payload := payload }]
    (s.setBody l (some { b with intake.arrival := some f, dl.departing := departing })).dropPackets l true dropped
  | .delay => s.setBody l (some { b with intake.arrival := some (keep false) })
  | .carry => s.setBody l (some { b with intake.arrival := some (keep true) })
  | .drop => s.setBody l (some { b with intake.arrival := some f })

/-- PACKET_ARRIVAL (R53, R55, R58); a packet of no frame in arrival on the lane is ignored. -/
def execPacketArrival (l : Lane) (ty : PacketType) (payload : List Byte) (s : State) : Host.Outcome State Fault Refusal :=
  if !payloadOk payload then .refused .illFormed
  else
    match s.body? l with
    | none => .next s
    | some b =>
      match b.intake.arrival with
      | none => .next s
      | some f =>
        if 32 ≤ f.accepted then .next (s.count l .ancDropped 1)
        else .next ((s.routePacket l b f ty payload).watchPacket l f.seq ty payload 0 b.intake.watch)

/-! ### Ticks: input loss and fill frames (R62 to R65) -/

/-- The record of a fill frame (R63). -/
def LaneBody.fillRecord (b : LaneBody) : Record :=
  { seq := b.intake.nextSeq, origin := .fill, pages := [], samples := cadence b.fmt.rate 0, audioState := .normal
    level := 0, covered := !b.dl.sources.isEmpty, carriedPrefix := [], own := [], damage := none, picture := .black
    audio := [], carryCopy := [] }

/-- A fill frame is made (R63). -/
def State.makeFill (s : State) (l : Lane) : State :=
  let t := s.fullLineCheck l
  match t.body? l with
  | none => t
  | some b =>
    let q := b.intake.nextSeq
    let (discard, value) := discardTest b q
    (t.setBody l (some { b with
      intake.discardThrough := value
      dl.records := if discard then b.dl.records else b.dl.records ++ [b.fillRecord]
      dl.mark := markStarts b.dl.mark q (if discard then .gone .removed else .held) })).takeSeq l

/-- n fill frames are made one after another (R63). -/
def State.makeFills (s : State) (l : Lane) : Nat → State
  | 0 => s
  | n + 1 => (s.makeFill l).makeFills l n

/-- The in-arrival frame is abandoned (R65). -/
def State.abandon (s : State) (l : Lane) (b : LaneBody) (f : InArrival) : State :=
  let (carried, dropped) := joinTail b.dl.carried f.carryCopy
  let b' :=
    { b with
      intake.arrival := none
      dl.carried := carried
      dl.mark := markArrives b.dl.mark f.seq (.gone .removed) }
  ((s.setBody l (some b')).freePages l f.pages).dropPackets l false dropped

/-- Whether the coming tick declares the input lost: the count reaches 3 with the loss flag clear (R62). -/
def Intake.declares (i : Intake) : Bool := i.ticksSince == 2 && !i.loss

/-- The fill frames that fall due at the coming tick (R62). -/
def Intake.due (i : Intake) : Nat := if i.declares then 3 else if i.loss then 1 else 0

/-- An in-arrival frame has seen one more tick (R62). -/
def InArrival.seeTick (f : InArrival) : InArrival := { f with ticksSeen := f.ticksSeen + 1 }

/-- Frame Intake's work at a tick: the count, a declaration of loss, and the fill frames due (R62, R64). -/
def State.intakeTick (s : State) (l : Lane) : State :=
  match s.body? l with
  | none => s
  | some b =>
    let due := b.intake.due
    let counted :=
      { b with
        intake.ticksSince := if b.intake.ticksSince < 3 then b.intake.ticksSince + 1 else b.intake.ticksSince
        intake.loss := b.intake.loss || b.intake.declares
        intake.arrival := b.intake.arrival.map (·.seeTick) }
    let s := if b.intake.declares then s.post (some l) (.input false) else s
    if due = 0 then s.setBody l (some counted)
    else
      let settled := { counted with intake.owed := 0 }
      match b.intake.arrival with
      | none => (s.setBody l (some settled)).makeFills l (due + b.intake.owed)
      | some f =>
        if f.ticksSeen = 0 then
          s.setBody l (some { counted with intake.owed := min 3 (b.intake.owed + due) })
        else (s.abandon l settled f).makeFills l (due + b.intake.owed)

end Sys2Proof.Machine
end

