-- ==== Sys2Proof/Machine/Governor.lean ====
section
/-! DEFINITION. The Rebuild Governor (06): the engagement step, the decision, pending actions on followers. -/

namespace Sys2Proof.Machine

/-- A tick's action (R90). -/
inductive Action where
  | nothing | insert | skip
deriving DecidableEq, Repr

/-- The change of a pending count that an action makes on a follower (R124). -/
def Action.owed : Action → Int
  | .nothing => 0
  | .insert => 1
  | .skip => -1

/-- The governor's account after an action (R117, R118, R121). -/
def GovState.acts (g : GovState) : Action → GovState
  | .nothing => g
  | .insert => { g with inserts := satAdd 65535 g.inserts 1 }
  | .skip => { g with skips := satAdd 65535 g.skips 1 }

/-- Whether the forcing interval is reached by a value of since (R116). -/
def GovSettings.forced (g : GovSettings) (since : Nat) : Bool := g.f != 0 && g.f ≤ since

/-- Whether an action is due (R116), for a value of since already raised. -/
def LaneBody.actionDue (b : LaneBody) (since : Nat) : Bool :=
  b.govSet.s ≤ since && (b.govSet.q ≤ b.play.quietRun || b.govSet.forced since)

/-- Whether the record behind the head is quiet (R118). -/
def LaneBody.candidateQuiet (b : LaneBody) : Bool :=
  match b.dl.records[1]? with
  | none => false
  | some r => b.foreseenLevel r ≤ b.govSet.threshold

/-- The kind of action a due tick takes: INSERT for a positive deviation, SKIP for a negative one whose conditions hold
(R116 to R119). -/
def LaneBody.dueAction (b : LaneBody) (dev : Int) (since : Nat) : Action :=
  if 0 < dev then .insert
  else if dev < 0 ∧ 2 ≤ b.h ∧ (b.govSet.forced since ∨ b.candidateQuiet) then .skip
  else .nothing

/-- What the governor settles at a tick: its account after, the lane's state, and the action. -/
structure Decision where
  gov : GovState
  mode : Mode
  action : Action
deriving DecidableEq, Repr

/-- The decision of a tick that reaches it: since is raised, then used (R115 to R119). A lane's first tick after a configure
reaches none and leaves since as it is (R115; log 32). -/
def LaneBody.reachDecision (b : LaneBody) (g : GovState) (mode : Mode) (dev : Int) : Decision :=
  if !b.gov.ticked then { gov := g, mode := mode, action := .nothing }
  else
    let since := satAdd 65535 g.since 1
    let action : Action := if b.actionDue since then b.dueAction dev since else Action.nothing
    let raised : GovState := { g with since := if action = .nothing then since else 0 }
    { gov := raised.acts action, mode := mode, action := action }

/-- The state that the sign of a deviation gives an engaged lane (R10). -/
def modeBySign (dev : Int) : Mode := if 0 < dev then .build else if dev < 0 then .trim else .onTarget

/-- The governor's step at a tick of an independent lane in BUILD, ON_TARGET or TRIM, or in DRAIN with D ≥ 2: the
engagement step and, where it is reached, the decision (R112 to R119). The depth is already recorded. -/
def LaneBody.governorStep (b : LaneBody) : Decision :=
  let dev := b.deviation
  let g := { b.gov with dev := dev, ticked := true }
  match b.mode with
  | .drain => b.reachDecision g .drain dev
  | _ =>
    if g.engaged then
      if dev = 0 then { gov := { g with engaged := false }, mode := .onTarget, action := .nothing }
      else b.reachDecision g (modeBySign dev) dev
    else if b.govSet.e ≤ dev.natAbs then
      { gov := { g with engaged := true, since := 0 }, mode := modeBySign dev, action := .nothing }
    else { gov := g, mode := .onTarget, action := .nothing }

/-- A leader's action adjusts one follower's pending count; at the bound it is dropped and counted (R124). -/
def State.adjustPending (s : State) (l f : Lane) (a : Action) : State :=
  match s.body? f with
  | none => s
  | some b =>
    let n := b.pendingCount + a.owed
    if -8 ≤ n ∧ n ≤ 8 then s.modBody f fun b => { b with link := b.link.map fun k => { k with pending := n } }
    else (s.count f .linkSlip 1).post (some f) (.linkSlip l (a == .skip))

/-- A leader's action is handed to each follower in ascending lane order (R124). -/
def State.handAction (s : State) (l : Lane) (a : Action) : State :=
  if a = .nothing then s else (s.followersOf l).foldl (fun t f => t.adjustPending l f a) s

/-- An independent lane's tick settles its action (R90, step 2): the state and the action. -/
def State.independentAction (s : State) (l : Lane) (b : LaneBody) : State × Action :=
  let noted := { b with gov := { b.gov with dev := b.deviation, ticked := true } }
  if b.mode = .pass then (s.setBody l (some noted), .nothing)
  else if b.mode = .drain ∧ b.play.depth ≤ 1 then
    ((s.setBody l (some { noted with gov := { noted.gov.entersPass with dev := 0 } })).changeMode l .pass .governor, .nothing)
  else
    let d := b.governorStep
    let t := s.setBody l (some { b with gov := d.gov })
    let t := if d.mode = b.mode then t else t.changeMode l d.mode .governor
    (t.handAction l d.action, d.action)

/-- A follower's action from its pending count (R125). -/
def LaneBody.owedAction (b : LaneBody) : Action :=
  if 0 < b.pendingCount then .insert else if b.pendingCount < 0 ∧ 2 ≤ b.h then .skip else .nothing

/-- A follower at the end of its drain that cannot pay its skips drops them (R127). -/
def State.dropOwed (s : State) (f leader : Lane) (b : LaneBody) : State :=
  let t := s.modBody f fun b => { b with link := b.link.map fun k => { k with pending := 0 } }
  (t.count f .linkSlip b.pendingCount.natAbs).post (some f) (.linkSlip leader true)

/-- A follower in DRAIN whose leader is in PASS goes to PASS when it owes nothing (R25, R127, R128). -/
def State.endDrain (s : State) (f leader : Lane) : State :=
  match s.body? f with
  | none => s
  | some b =>
    if b.mode = .drain ∧ s.mode? leader = some .pass ∧ b.pendingCount = 0 then s.followMode f .pass else s

/-- A follower's tick settles its action (R125, R127): the state and the action. -/
def State.followerAction (s : State) (f : Lane) (b : LaneBody) (k : FollowerLink) : State × Action :=
  let noted := { b with gov := { b.gov with dev := b.deviation, ticked := true } }
  if b.mode = .drain ∧ s.mode? k.leader = some .pass ∧ b.play.depth ≤ 1 ∧ k.pending < 0 then
    (((s.setBody f (some noted)).dropOwed f k.leader b).endDrain f k.leader, .nothing)
  else
    let a := b.owedAction
    let paid :=
      { noted with gov := noted.gov.acts a, link := some { k with pending := k.pending - a.owed } }
    ((s.setBody f (some paid)).endDrain f k.leader, a)

/-- A tick's depth is recorded and its action settled (R90, steps 1 and 2). -/
def State.settleAction (s : State) (l : Lane) (b : LaneBody) : State × Action :=
  let b := { b with play.depth := b.h }
  match b.link with
  | some k => s.followerAction l b k
  | none => s.independentAction l b

/-- Whether Playout's tick of a lane would find an action due by the forcing interval (R116): GOVERNOR_FORCE's condition. A
lane's first tick after a configure reaches no decision (R115; log 32). -/
def LaneBody.forceDue (b : LaneBody) : Bool :=
  let c := { b with play.depth := b.h }
  let since := satAdd 65535 b.gov.since 1
  b.link.isNone && b.gov.ticked && b.mode.delaying && b.govSet.s ≤ since && b.govSet.forced since
    && (if b.mode = .drain then 2 ≤ b.h else b.gov.engaged && c.deviation != 0)

end Sys2Proof.Machine
end

