-- ==== Sys2Proof/Machine/PlayoutUnit.lean ====
section
/-! DEFINITION. Playout (05): what a lane emits at a tick, and the commands LANE_TICK, INPUT_LOSS_DECLARED and
GOVERNOR_FORCE. -/

namespace Sys2Proof.Machine

/-- The packets that leave a departure packet list with an emitted frame (R84). -/
def outPackets (list : List Packet) : List (PacketType × List Byte) := (list.take packetCap).map fun p => (p.type, p.payload)

/-- A frame's carried prefix and own packets as emitted (R109). -/
def Record.outPackets (r : Record) : List (PacketType × List Byte) :=
  r.carriedPrefix.map (fun p => (p.type, p.payload)) ++ r.own.map fun p => (p.type, p.payload)

/-- The quiet run after a frame of a level (R107). -/
def quietAfter (run threshold level : Nat) : Nat := if level ≤ threshold then satAdd 255 run 1 else 0

/-- Every emitted frame: the output link carries it, its audio is the last emitted block, its level the previous emitted
level, the phase advances, the quiet run follows, and up to 32 packets have left the departure packet list
(R84, R90, R100, R102, R106, R107, R109). -/
def LaneBody.emit (b : LaneBody) (video : Picture) (audio : List (List Sample)) (packets : List (PacketType × List Byte))
    (level : Nat) : LaneBody :=
  { b with
    dl.departing := b.dl.departing.drop packetCap
    play.phase := (b.play.phase + 1) % cadencePeriod b.fmt.rate
    play.lastBlock := some audio
    play.prevLevel := level
    play.quietRun := quietAfter b.play.quietRun b.govSet.threshold level
    play.output := some
      { video := if b.fmt.vclass = .audioOnly then none else some video
        audio := audio
        packets := packets ++ outPackets b.dl.departing } }

/-- The samples per channel required at the present output phase, S(k) (R100). -/
def LaneBody.required (b : LaneBody) : Nat := cadence b.fmt.rate b.play.phase

/-- The picture of the output hold, black when the lane has none (R93, R95). -/
def LaneBody.holdPicture (b : LaneBody) : Picture := (b.play.hold.map (·.picture)).getD .black

/-- The video pages of the output hold (R93). -/
def LaneBody.holdVideo (b : LaneBody) : List PageNo := videoPages b.fmt.vclass ((b.play.hold.map (·.pages)).getD [])

/-- The audio of a repeat: the last emitted block fitted to the phase, or silence (R102). -/
def LaneBody.repeatAudio (b : LaneBody) : List (List Sample) :=
  match b.play.lastBlock with
  | none => silence b.fmt.channels.toNat b.required
  | some block => fitBlock b.fmt.channels.toNat b.required block

/-- A repeat is emitted: the hold's video pages are read, and no record departs (R93, R102). -/
def State.emitRepeat (s : State) (l : Lane) (b : LaneBody) : State :=
  (s.readPages b.holdVideo).setBody l (some (b.emit b.holdPicture b.repeatAudio [] b.play.prevLevel))

/-- An underrun repeat: counted, with a notice of the counter's value (R92). -/
def State.underrun (s : State) (l : Lane) (b : LaneBody) : State :=
  let t := (s.emitRepeat l b).count l .underrun 1
  t.post (some l) (.underrun (t.lanes.get l).counters.underrun)

/-- What the readout of a departing record finds (R95, R96). -/
def Store.damageOf (st : Store) (c : VideoClass) (r : Record) : Option Damage :=
  match r.origin with
  | .fill => none
  | .received =>
    match (videoPages c r.pages).any st.pageBad, (audioPages c r.pages).any st.pageBad with
    | false, false => none
    | true, false => some .video
    | false, true => some .audio
    | true, true => some .both

/-- Whether a damage concerns the video (R95). -/
def videoDamaged (d : Option Damage) : Bool := d == some .video || d == some .both

/-- Whether a damage concerns the audio/packet page (R96). -/
def audioDamaged (d : Option Damage) : Bool := d == some .audio || d == some .both

/-- The audio of a departing record before fill: its stored samples, or silence, fitted to the phase
(R91, R96, R97, R101). -/
def LaneBody.recordAudio (b : LaneBody) (r : Record) (d : Option Damage) : List (List Sample) :=
  let stored :=
    if r.origin = .fill ∨ r.audioState = .malformed ∨ audioDamaged d then silence b.fmt.channels.toNat r.samples
    else r.audio
  fitBlock b.fmt.channels.toNat b.required stored

/-- Whether a departing record applies cover fill (R104). -/
def LaneBody.fills (b : LaneBody) (r : Record) : Bool := r.covered && b.fillNames

/-- The tone phase at which a fill starts: 0 unless the last departure applied fill (R105). -/
def LaneBody.toneStart (b : LaneBody) : Nat := if b.play.fillRun then b.play.tonePhase else 0

/-- The n fill samples of a covered channel (R104, R105). -/
def LaneBody.fillSamples (b : LaneBody) (n : Nat) : List Sample :=
  match b.play.fill.kind with
  | .silence => List.replicate n 0
  | .tone => (List.range n).map fun i => BitVec.ofInt 24 (toneEntry b.play.fill.amplitude (b.toneStart + i))

/-- A fitted block with the covered channels filled (R104). -/
def LaneBody.applyFill (b : LaneBody) (block : List (List Sample)) : List (List Sample) :=
  block.mapIdx fun i xs => if b.play.fill.mask.getLsbD i then b.fillSamples b.required else xs

/-- The emitted level of a departing record (R106). -/
def LaneBody.departureLevel (b : LaneBody) (r : Record) (d : Option Damage) : Nat :=
  if b.fills r then b.play.fill.level else if audioDamaged d then 0 else r.level

/-- The picture a departing record emits (R91, R95, R97). -/
def LaneBody.departurePicture (b : LaneBody) (r : Record) (d : Option Damage) : Picture :=
  if r.origin = .fill then .black else if videoDamaged d then b.holdPicture else r.picture

/-- The pages a departing record reads: its own in page-list order, then the hold's video where its own is damaged
(R36, R91, R95). -/
def LaneBody.departureReads (b : LaneBody) (r : Record) (d : Option Damage) : List PageNo :=
  if r.origin = .fill then [] else r.pages ++ if videoDamaged d then b.holdVideo else []

/-- Whether a departing record becomes the output hold (R34, R98). -/
def becomesHold (r : Record) (d : Option Damage) : Bool := r.origin == .received && !videoDamaged d

/-- The pages freed at a departure: the previous hold's where it is replaced, the record's where its video is damaged
(R33, R34). -/
def LaneBody.departureFrees (b : LaneBody) (r : Record) (d : Option Damage) : List PageNo :=
  if becomesHold r d then (b.play.hold.map (·.pages)).getD [] else r.pages

/-- The lane after the departure of its head record (R75, R91, R98, R104, R105). -/
def LaneBody.departed (b : LaneBody) (r : Record) (rest : List Record) (d : Option Damage) : LaneBody :=
  let fitted := b.recordAudio r d
  let audio := if b.fills r then b.applyFill fitted else fitted
  let e := b.emit (b.departurePicture r d) audio (if audioDamaged d then [] else r.outPackets) (b.departureLevel r d)
  { e with
    dl.records := rest
    dl.mark := markLeaves b.dl.mark [r.seq] .aired
    play.hold := if becomesHold r d then some { r with damage := d, carryCopy := [] } else b.play.hold
    play.fillRun := b.fills r
    play.tonePhase := if b.fills r then (b.toneStart + b.required) % 48 else b.play.tonePhase }

/-- A departure of the head record, or an underrun where the line is empty (R91, R92, R95 to R97). -/
def State.depart (s : State) (l : Lane) (b : LaneBody) : State :=
  match b.dl.records with
  | [] => s.underrun l b
  | r :: rest =>
    let d := s.store.damageOf b.fmt.vclass r
    let t := s.readPages (b.departureReads r d)
    let t := (t.setBody l (some (b.departed r rest d))).freePages l (b.departureFrees r d)
    let lost := r.carriedPrefix.length + r.own.length
    let t := if audioDamaged d ∧ 0 < lost then t.count l .ancLost lost else t
    match d with
    | none => t
    | some damage => (t.count l .damaged 1).post (some l) (.damaged r.seq damage)

/-- A skip removes the head unaired (R94). -/
def State.skipHead (s : State) (l : Lane) (b : LaneBody) : State :=
  match b.dl.records with
  | [] => s
  | r :: rest =>
    let (departing, dropped) := joinFront b.dl.departing r.carryCopy
    let b' :=
      { b with
        dl.records := rest
        dl.departing := departing
        dl.mark := markLeaves b.dl.mark [r.seq] .removed }
    ((s.setBody l (some b')).freePages l r.pages).dropPackets l true dropped

/-- A body read afresh, for an operation on it. -/
def State.onBody (s : State) (l : Lane) (f : State → LaneBody → State) : State :=
  match s.body? l with
  | none => s
  | some b => f s b

/-- The frame for the tick's action is emitted (R90, step 3). -/
def State.emission (s : State) (l : Lane) (a : Action) : State :=
  match a with
  | .insert => s.onBody l fun s b => s.emitRepeat l b
  | .skip => (s.onBody l fun s b => s.skipHead l b).onBody l fun s b => s.depart l b
  | .nothing => s.onBody l fun s b => s.depart l b

/-- Playout's work at a tick (R90). -/
def State.playTick (s : State) (l : Lane) : State :=
  s.onBody l fun s b =>
    let (t, a) := s.settleAction l b
    t.emission l a

/-- A tick of a lane: Frame Intake's work and Playout's, in the order taken (5.1, R64). An OFF lane has no ticks (R88). -/
def State.laneTick (s : State) (l : Lane) (intakeFirst : Bool) : State :=
  if intakeFirst then (s.intakeTick l).playTick l else (s.playTick l).intakeTick l

/-- LANE_TICK (R90). -/
def execLaneTick (l : Lane) (intakeFirst : Bool) (s : State) : Host.Outcome State Fault Refusal :=
  .next (s.laneTick l intakeFirst)

/-- INPUT_LOSS_DECLARED (R62): the tick at which the count reaches 3 with the loss flag clear; no other tick (log 2). -/
def execInputLossDeclared (l : Lane) (intakeFirst : Bool) (s : State) : Host.Outcome State Fault Refusal :=
  .next (if ((s.body? l).map (·.intake.declares)).getD false then s.laneTick l intakeFirst else s)

/-- GOVERNOR_FORCE (R116): the tick at which an action is due by the forcing interval; no other tick (log 2). -/
def execGovernorForce (l : Lane) (intakeFirst : Bool) (s : State) : Host.Outcome State Fault Refusal :=
  .next
    (if (((if intakeFirst then s.intakeTick l else s).body? l).map (·.forceDue)).getD false then s.laneTick l intakeFirst
     else s)

end Sys2Proof.Machine
end

