-- ==== Sys2Proof/Machine/PanelUnit.lean ====
section
/-! DEFINITION. The Panel Line Unit (08): sampling and filtering, input groups and their firing, bindings, lockout, output
lines, and its messages. -/

namespace Sys2Proof.Machine

/-- The group of an input line, none when it is unbound (R153). -/
def InLine.group (x : InLine) : Option GroupId :=
  if x.func = .unbound then none else some { func := x.func, mask := x.mask }

/-- An input line replaced. -/
def State.setInput (s : State) (i : Fin 16) (x : InLine) : State :=
  { s with panel := { s.panel with inputs := s.panel.inputs.set i.val x i.isLt } }

/-- An output line replaced. -/
def State.setOutput (s : State) (i : Fin 16) (x : OutLine) : State :=
  { s with panel := { s.panel with outputs := s.panel.outputs.set i.val x i.isLt } }

/-- Whether some member of a group has an active filtered level (R154). -/
def Panel.anyActive (p : Panel) (g : GroupId) : Bool := p.inputs.toList.any fun x => x.group == some g && x.level

/-- Whether a group is FIRED (R154). -/
def Panel.isFired (p : Panel) (g : GroupId) : Bool := p.fired.contains g

/-- A group's FIRED state taken away. -/
def State.disarm (s : State) (g : GroupId) : State :=
  { s with panel := { s.panel with fired := s.panel.fired.filter (· != g) } }

/-- The lanes of a group's mask that a firing or a return reaches are tested one at a time: a follower is skipped, and
nothing happens on an OFF lane (R155, R156). -/
def State.onReached (s : State) (l : Lane) (f : State → Lane → State) : State :=
  match s.body? l with
  | none => s
  | some b => if b.link.isSome then s else f s l

/-- A panel function fired on one lane, carried out as its message with cause PANEL and no reply (R16). -/
def State.panelAction (s : State) (func : InFunc) (l : Lane) : State :=
  s.onReached l fun s l =>
    match func with
    | .unbound => s
    | .dump => (s.dump l).1
    | .cover => s.addSource l .panel
    | .mark => (s.setMark l).1
    | .cutToMark => (s.cutToMark l).1
    | .enter => (s.enter l .panel).1
    | .exit => (s.exitGentle l .panel).1

/-- A group fires at a line's active edge (R155). -/
def State.fireGroup (s : State) (g : GroupId) (i : Fin 16) : State :=
  let t := { s with panel := { s.panel with fired := s.panel.fired ++ [g] } }
  ((maskLanes g.mask).foldl (fun u l => u.panelAction g.func l) t).post none (.panelEvent i g.func g.mask)

/-- A FIRED group returns to ARMED: a COVER group removes PANEL from each lane of its mask (R156). -/
def State.rearmGroup (s : State) (g : GroupId) : State :=
  let t := s.disarm g
  if g.func = .cover then
    (maskLanes g.mask).foldl (fun u l => u.onReached l fun v l => v.removeSource l .panel) t
  else t

/-- An edge of a line, its filtered level already changed, taken by its group (R154). -/
def State.takeEdge (s : State) (i : Fin 16) (active : Bool) : State :=
  match (s.panel.inputs.get i).group with
  | none => s
  | some g =>
    if active then if s.panel.isFired g then s else s.fireGroup g i
    else if s.panel.isFired g && !s.panel.anyActive g then s.rearmGroup g
    else s

/-- The logical sample of a line's electrical level (R152). -/
def InLine.logical (x : InLine) (closed : Bool) : Bool := closed != x.inverted

/-- Whether a sample of a line makes an edge: it differs from the filtered level and the count reaches N (R152). -/
def InLine.edges (x : InLine) (closed : Bool) : Bool := x.logical closed != x.level && x.length ≤ x.count + 1

/-- One sample of an input line, with the edge it may make (R152). -/
def State.sampleLine (s : State) (i : Fin 16) (closed : Bool) : State :=
  let x := s.panel.inputs.get i
  if x.logical closed = x.level then s.setInput i { x with count := 0 }
  else if x.edges closed then
    (s.setInput i { x with level := x.logical closed, count := 0 }).takeEdge i (x.logical closed)
  else s.setInput i { x with count := x.count + 1 }

/-- PANEL_SAMPLE (R152); no line is sampled while lockout is on (R158). -/
def execPanelSample (i : Fin 16) (closed : Bool) (s : State) : Host.Outcome State Fault Refusal :=
  .next (if s.panel.lockout then s else s.sampleLine i closed)

/-- PANEL_EDGE (R152, R154): the sample at which the line's filter count reaches N; no other sample (log 2). -/
def execPanelEdge (i : Fin 16) (closed : Bool) (s : State) : Host.Outcome State Fault Refusal :=
  .next (if !s.panel.lockout && (s.panel.inputs.get i).edges closed then s.sampleLine i closed else s)

/-! ### Messages -/

/-- A line leaves the group of its old binding (R157, step 1). -/
def State.leaveGroup (s : State) (i : Fin 16) : State :=
  match (s.panel.inputs.get i).group with
  | none => s
  | some g =>
    let t := s.setInput i { s.panel.inputs.get i with func := .unbound }
    if s.panel.isFired g && !t.panel.anyActive g then t.rearmGroup g else t

/-- PANEL_BIND_IN (R157). -/
def State.bindIn (s : State) (i : Fin 16) (func : InFunc) (mask : BitVec 4) (inverted : Bool) (n : Nat) :
    State × Answer :=
  let length := max 1 (min n 32)
  let x : InLine := { func := func, mask := mask, inverted := inverted, length := length, level := false, count := 0 }
  ((s.leaveGroup i).setInput i x,
    .applied (length != n)
      [lineByte i, BitVec.ofNat 8 (inFuncNo func), laneMaskByte mask, boolByte inverted, BitVec.ofNat 8 length])

/-- PANEL_BIND_IN's body: line, function, lane mask, polarity, N (R182). -/
def bindInMessage : Handler := fun s _ body =>
  match body with
  | [i, f, m, p, n] =>
    match lineOf i, inFuncOf f, laneMaskOf m, boolOf p with
    | some line, some func, some mask, some inverted => s.bindIn line func mask inverted n.toNat
    | _, _, _, _ => (s, .refuse .badArgument)
  | _ => (s, .refuse .badLength)

/-- An output line's settings and the level it drives (R161, R182). -/
def State.outBytes (s : State) (i : Fin 16) : List Byte :=
  let o := s.panel.outputs.get i
  [lineByte i, BitVec.ofNat 8 (outFuncNo o.func), laneByte o.lane, boolByte o.inverted, boolByte o.manual,
    boolByte o.forceEnable, boolByte o.forceValue, boolByte (s.outLevel i)]

/-- An output line's lane 0..4, 0 reading as no lane (R161). -/
def outLaneOf (b : Byte) : Option (Option Lane) := if b = 0 then some none else (laneOf b).map some

/-- PANEL_BIND_OUT's body: line, function, lane, polarity (R161, R182). -/
def bindOutMessage : Handler := fun s _ body =>
  match body with
  | [i, f, l, p] =>
    match lineOf i, outFuncOf f, outLaneOf l, boolOf p with
    | some line, some func, some lane, some inverted =>
      if usesLane func && lane.isNone then (s, .refuse .badArgument)
      else
        let t := s.setOutput line { s.panel.outputs.get line with func := func, lane := lane, inverted := inverted }
        (t, .ok (t.outBytes line))
    | _, _, _, _ => (s, .refuse .badArgument)
  | _ => (s, .refuse .badLength)

/-- PANEL_DRIVE's body: line, manual value, force enable, force value (R161, R182). -/
def driveMessage : Handler := fun s _ body =>
  match body with
  | [i, m, e, v] =>
    match lineOf i, boolOf m, boolOf e, boolOf v with
    | some line, some manual, some enable, some value =>
      let t := s.setOutput line
        { s.panel.outputs.get line with manual := manual, forceEnable := enable, forceValue := value }
      (t, .ok (t.outBytes line))
    | _, _, _, _ => (s, .refuse .badArgument)
  | _ => (s, .refuse .badLength)

/-- Lockout turned on (R158). -/
def State.lockOn (s : State) : State :=
  if s.panel.lockout then s
  else
    let t := { s with panel := { s.panel with
      inputs := s.panel.inputs.map fun x => { x with level := false, count := 0 } } }
    let t := s.panel.fired.foldl State.rearmGroup t
    { t with panel := { t.panel with lockout := true } }

/-- Lockout turned off (R159). -/
def State.lockOff (s : State) : State := { s with panel := { s.panel with lockout := false } }

/-- PANEL_LOCK's body: off 0 or on 1 (R158, R159). -/
def lockMessage : Handler := fun s _ body =>
  match body with
  | [v] =>
    match boolOf v with
    | none => (s, .refuse .badArgument)
    | some on => (if on then s.lockOn else s.lockOff, .ok [boolByte on])
  | _ => (s, .refuse .badLength)

/-- The three bytes of an input line in the inputs view (R182). -/
def Panel.inputBytes (p : Panel) (x : InLine) : List Byte :=
  let fired := match x.group with
    | none => false
    | some g => p.isFired g
  [BitVec.ofNat 8 (inFuncNo x.func) ||| (boolByte x.inverted <<< 3) ||| (boolByte x.level <<< 4) ||| (boolByte fired <<< 5),
   laneMaskByte x.mask ||| (BitVec.ofNat 8 (x.count % 16) <<< 4),
   BitVec.ofNat 8 x.length ||| (BitVec.ofNat 8 (x.count / 16) <<< 6)]

/-- The two bytes of an output line in the outputs view (R182). -/
def State.outputBytes (s : State) (i : Fin 16) : List Byte :=
  let o := s.panel.outputs.get i
  [BitVec.ofNat 8 (outFuncNo o.func) ||| (laneByte o.lane <<< 3) ||| (boolByte o.inverted <<< 6),
   bitsByte [o.manual, o.forceEnable, o.forceValue, s.outLevel i]]

/-- PANEL_STATUS' body: the view (R162, R182). -/
def panelStatusMessage : Handler := fun s _ body =>
  match body with
  | [v] =>
    if v = 0 then (s, .ok (v :: boolByte s.panel.lockout :: s.panel.inputs.toList.flatMap s.panel.inputBytes))
    else if v = 1 then (s, .ok (v :: boolByte s.panel.lockout :: (List.finRange 16).flatMap s.outputBytes))
    else (s, .refuse .badArgument)
  | _ => (s, .refuse .badLength)

/-- PANEL_LOCK on (R158). -/
def execPanelLockOn (s : State) : Host.Outcome State Fault Refusal :=
  .next (s.execute (hasForm 0x0A 0 0) (lengthIs 1) controllerOnly lockMessage)

/-- PANEL_LOCK off (R159). -/
def execPanelLockOff (s : State) : Host.Outcome State Fault Refusal :=
  .next (s.execute (hasForm 0x0A 1 0) (lengthIs 1) controllerOnly lockMessage)

/-- PANEL_BIND_IN (R157). -/
def execPanelBindIn (s : State) : Host.Outcome State Fault Refusal :=
  .next (s.execute (hasCode 0x0B) (lengthIs 5) controllerOnly bindInMessage)

/-- PANEL_BIND_OUT (R161). -/
def execPanelBindOut (s : State) : Host.Outcome State Fault Refusal :=
  .next (s.execute (hasCode 0x0C) (lengthIs 4) controllerOnly bindOutMessage)

/-- PANEL_DRIVE (R161). -/
def execPanelDrive (s : State) : Host.Outcome State Fault Refusal :=
  .next (s.execute (hasCode 0x0D) (lengthIs 4) controllerOnly driveMessage)

/-- PANEL_STATUS (R162). -/
def execPanelStatus (s : State) : Host.Outcome State Fault Refusal :=
  .next (s.execute (hasCode 0x0E) (lengthIs 1) eitherPort panelStatusMessage)

end Sys2Proof.Machine
end

