-- ==== Sys2Proof/Machine/UnitControl.lean ====
section
/-! DEFINITION. The unit's own messages, the Tick Generator, the transmitters and the resets (05, 09): IDENTIFY,
UNIT_STATUS, RESTART, TAKE_CONTROL, SET_TAKEOVER, SET_NOTICES, UNKNOWN_MESSAGE, REFERENCE_PULSE, REFERENCE_LOST,
TRANSMIT_REPLY, TRANSMIT_NOTICE, POWER_UP, RESETN, RESTART_EFFECT. -/

namespace Sys2Proof.Machine

/-! ### Unit messages -/

/-- UNKNOWN_MESSAGE (R170, check 1): whatever the body and the sender. -/
def unknownHandler : Handler := fun s _ _ => (s, .refuse .unknownMessage)

/-- IDENTIFY (R181). -/
def identifyMessage : Handler := fun s _ _ =>
  (s, .ok (be16 Config.vendorCode ++ be16 Config.partCode ++ [BitVec.ofNat 8 Config.siliconRevision]))

/-- A port's four counters as bytes (R181). -/
def PortState.counterBytes (p : PortState) : List Byte :=
  be16 p.gapError ++ be16 p.crcError ++ be16 p.frameError ++ be16 p.overflowDiscard

/-- A port's four counters at 0 (R168). -/
def PortState.clearCounters (p : PortState) : PortState :=
  { p with gapError := 0, crcError := 0, frameError := 0, overflowDiscard := 0 }

/-- The 21 bytes of UNIT_STATUS (R181). -/
def State.unitView (s : State) : List Byte :=
  s.unitFlags :: (s.link.ports.get .a).counterBytes ++ (s.link.ports.get .b).counterBytes
    ++ allLanes.map fun l => stateByte (s.mode? l)

/-- UNIT_STATUS' body: the clear flag (R168, R179). -/
def unitStatusMessage : Handler := fun s _ body =>
  match body with
  | [c] =>
    match boolOf c with
    | none => (s, .refuse .badArgument)
    | some clear =>
      (if clear then (s.modPort .a PortState.clearCounters).modPort .b PortState.clearCounters else s, .ok s.unitView)
  | _ => (s, .refuse .badLength)

/-- RESTART at its execution (R174): restart pending is set, and both receivers drop what they hold. -/
def restartMessage : Handler := fun s p _ =>
  let t := (s.modPort .a fun q => { q with rx := .hunting }).modPort .b fun q => { q with rx := .hunting }
  ({ t with link := { t.link with restartPending := some p } }, .ok [])

/-- TAKE_CONTROL (R173). -/
def takeControlMessage : Handler := fun s p _ =>
  if s.controls p then (s, .ok [])
  else if !s.link.takeoverAllowed then (s, .refuse .takeoverLocked)
  else (({ s with link := { s.link with controller := p } } : State).postOn p.other none (.controlLost p), .ok [])

/-- SET_TAKEOVER's body: allowed 0 or locked 1 (R173, R181). -/
def setTakeoverMessage : Handler := fun s _ body =>
  match body with
  | [v] =>
    match boolOf v with
    | none => (s, .refuse .badArgument)
    | some locked => ({ s with link := { s.link with takeoverAllowed := !locked } }, .ok [boolByte locked])
  | _ => (s, .refuse .badLength)

/-- Thirteen kinds' settings in default order, none unless each byte is a setting (R181). -/
def kindSettingsOf (bytes : List Byte) : Option (Vector KindSetting 13) :=
  match bytes.mapM kindSettingOf with
  | none => none
  | some ks => if h : ks.length = 13 then some ⟨ks.toArray, by simpa using h⟩ else none

/-- A port's masks and classes replaced; entries of kinds now disabled are removed, but CONTROL_LOST's (R176). -/
def PortState.setKinds (p : PortState) (ks : Vector KindSetting 13) : PortState :=
  let q := { p with kinds := ks }
  { q with notices := p.notices.filter fun e => q.keeps e.detail }

/-- SET_NOTICES' body: the port and thirteen bytes (R176, R181). -/
def setNoticesMessage : Handler := fun s _ body =>
  match body with
  | p :: bytes =>
    match portOf p, kindSettingsOf bytes with
    | some port, some ks =>
      (s.modPort port (·.setKinds ks), .ok (p :: ks.toList.map kindSettingByte))
    | _, _ => (s, .refuse .badArgument)
  | _ => (s, .refuse .badLength)

/-- The observer may name its own port only (R172). -/
def namesOwnPort (s : State) (p : Port) (body : List Byte) : Bool := s.controls p || body.head? == some (portByte p)

/-- UNKNOWN_MESSAGE (R170). -/
def execUnknownMessage (s : State) : Host.Outcome State Fault Refusal :=
  .next (s.execute (fun r => !requestCodes.contains r.code) (fun _ => true) eitherPort unknownHandler)

/-- IDENTIFY (R181). -/
def execIdentify (s : State) : Host.Outcome State Fault Refusal :=
  .next (s.execute (hasCode 0x01) (lengthIs 0) eitherPort identifyMessage)

/-- UNIT_STATUS (R168). -/
def execUnitStatus (s : State) : Host.Outcome State Fault Refusal :=
  .next (s.execute (hasCode 0x02) (lengthIs 1) clearNeedsController unitStatusMessage)

/-- RESTART (R174). -/
def execRestart (s : State) : Host.Outcome State Fault Refusal :=
  .next (s.execute (hasCode 0x03) (lengthIs 0) controllerOnly restartMessage)

/-- TAKE_CONTROL (R173). -/
def execTakeControl (s : State) : Host.Outcome State Fault Refusal :=
  .next (s.execute (hasCode 0x04) (lengthIs 0) eitherPort takeControlMessage)

/-- SET_TAKEOVER (R173). -/
def execSetTakeover (s : State) : Host.Outcome State Fault Refusal :=
  .next (s.execute (hasCode 0x05) (lengthIs 1) controllerOnly setTakeoverMessage)

/-- SET_NOTICES (R176). -/
def execSetNotices (s : State) : Host.Outcome State Fault Refusal :=
  .next (s.execute (hasCode 0x06) (lengthIs 14) namesOwnPort setNoticesMessage)

/-! ### The Tick Generator (R89) -/

/-- REFERENCE_PULSE (R89): the second of two pulses one frame interval apart locks; a pulse out of step with the interval
counts as a missing pulse (log 23). -/
def execReferencePulse (interval : Option (Fin 8)) (s : State) : Host.Outcome State Fault Refusal :=
  .next
    (match s.tick.locked with
     | some r =>
       if interval = some r then s
       else ({ s with tick := { locked := none, pulseSeen := true } } : State).post none (.reference false)
     | none =>
       match interval with
       | some r =>
         if s.tick.pulseSeen then
           ({ s with tick := { locked := some r, pulseSeen := true } } : State).post none (.reference true)
         else { s with tick := { s.tick with pulseSeen := true } }
       | none => { s with tick := { s.tick with pulseSeen := true } })

/-- REFERENCE_LOST (R89): an expected pulse does not arrive; in FREE none is expected (log 2). -/
def execReferenceLost (s : State) : Host.Outcome State Fault Refusal :=
  .next
    (if s.tick.locked.isSome then ({ s with tick := { s.tick with locked := none } } : State).post none (.reference false)
     else s)

/-! ### The transmitters (R171, R177) -/

/-- TRANSMIT_REPLY (R171): the oldest reply is taken, the overflow-seen flag written into it and cleared. -/
def execTransmitReply (p : Port) (s : State) : Host.Outcome State Fault Refusal :=
  .next
    (match (s.link.ports.get p).replies with
     | [] => s
     | r :: rest =>
       s.modPort p fun q =>
         { q with replies := rest, overflowSeen := false, onLine := some (replyFrame r q.overflowSeen) })

/-- Whether a pending entry's kind is HIGH on a port (R176). -/
def PortState.isHigh (p : PortState) (e : NoticeEntry) : Bool := (p.kinds.get (kindIndex e.detail)).high

/-- The entry a transmitter takes next: HIGH before LOW, then by kind and lane, the order of the pending set (R177). -/
def PortState.nextNotice (p : PortState) : Option NoticeEntry :=
  match p.notices.find? p.isHigh with
  | some e => some e
  | none => p.notices.head?

/-- TRANSMIT_NOTICE (R177): taken only with no reply queued, and not on a port whose RESTART reply is being sent (R174). -/
def execTransmitNotice (p : Port) (s : State) : Host.Outcome State Fault Refusal :=
  .next
    (let q := s.link.ports.get p
     if !q.replies.isEmpty || s.link.restartPending == some p then s
     else
       match q.nextNotice with
       | none => s
       | some e =>
         s.modPort p fun q =>
           { q with notices := q.notices.filter (·.key != e.key), onLine := some (noticeFrame e) })

/-! ### Resets (R17, R42, R89, R110, R163, R174, R178) -/

/-- The part as power-up leaves it, the error map of the pool apart, which no reset writes (R42; log 8). -/
def State.poweredUp (s : State) (ratesel : Bool) : State :=
  { State.reset with
    pending := s.pending
    store := { Store.reset with errs := s.store.errs }
    link := .reset ratesel }

/-- POWER_UP, with the level of the RATESEL strap (R17, R164). -/
def execPowerUp (ratesel : Bool) (s : State) : Host.Outcome State Fault Refusal := .next (s.poweredUp ratesel)

/-- RESETN, asserted and released: the same effect as power-up (R17, R164). -/
def execResetN (ratesel : Bool) (s : State) : Host.Outcome State Fault Refusal := .next (s.poweredUp ratesel)

/-- A bank after RESTART: its counters are kept and its arm is clear (R42). -/
def Bank.restarted (b : Bank) : Bank := { b with arm := none }

/-- A port after RESTART: its counters are kept (R178). -/
def PortState.restarted (p : PortState) : PortState :=
  { PortState.reset with
    gapError := p.gapError, crcError := p.crcError, frameError := p.frameError, overflowDiscard := p.overflowDiscard }

/-- RESTART_EFFECT (R174): once the RESTART reply has left the reply queue and been sent, the part restarts as at
power-up but for what RESTART keeps (log 17). -/
def execRestartEffect (s : State) : Host.Outcome State Fault Refusal :=
  .next
    (match s.link.restartPending with
     | none => s
     | some p =>
       if !(s.link.ports.get p).replies.isEmpty then s
       else
         { State.reset with
           pending := s.pending
           store := { Store.reset with banks := s.store.banks.map Bank.restarted, errs := s.store.errs }
           link :=
             { ports := { a := s.link.ports.a.restarted, b := s.link.ports.b.restarted }
               controller := p
               takeoverAllowed := s.link.takeoverAllowed
               lastServed := .b
               restartPending := none
               lineRate := s.link.lineRate } })

end Sys2Proof.Machine
end

