-- ==== Sys2Proof/Machine/Dispatch.lean ====
section
/-! DEFINITION. One arm per command, each one call of its meaning. -/

namespace Sys2Proof.Machine

def exec (i : Instr) (s : State) : Host.Outcome State Fault Refusal :=
  match i with
  | .powerUp ratesel => Sys2Proof.Machine.execPowerUp ratesel s
  | .resetN ratesel => Sys2Proof.Machine.execResetN ratesel s
  | .receiveByte p b stopError => Sys2Proof.Machine.execReceiveByte p b stopError s
  | .gapExpiry p => Sys2Proof.Machine.execGapExpiry p s
  | .unknownMessage => Sys2Proof.Machine.execUnknownMessage s
  | .identify => Sys2Proof.Machine.execIdentify s
  | .unitStatus => Sys2Proof.Machine.execUnitStatus s
  | .restart => Sys2Proof.Machine.execRestart s
  | .restartEffect => Sys2Proof.Machine.execRestartEffect s
  | .takeControl => Sys2Proof.Machine.execTakeControl s
  | .setTakeover => Sys2Proof.Machine.execSetTakeover s
  | .setNotices => Sys2Proof.Machine.execSetNotices s
  | .storeStatus => Sys2Proof.Machine.execStoreStatus s
  | .storeClearCounts => Sys2Proof.Machine.execStoreClearCounts s
  | .storeInject => Sys2Proof.Machine.execStoreInject s
  | .pageWriteComplete l => Sys2Proof.Machine.execPageWriteComplete l s
  | .panelLockOn => Sys2Proof.Machine.execPanelLockOn s
  | .panelLockOff => Sys2Proof.Machine.execPanelLockOff s
  | .panelBindIn => Sys2Proof.Machine.execPanelBindIn s
  | .panelBindOut => Sys2Proof.Machine.execPanelBindOut s
  | .panelDrive => Sys2Proof.Machine.execPanelDrive s
  | .panelStatus => Sys2Proof.Machine.execPanelStatus s
  | .panelSample line closed => Sys2Proof.Machine.execPanelSample line closed s
  | .panelEdge line closed => Sys2Proof.Machine.execPanelEdge line closed s
  | .laneConfigure => Sys2Proof.Machine.execLaneConfigure s
  | .laneRelease => Sys2Proof.Machine.execLaneRelease s
  | .laneTiming => Sys2Proof.Machine.execLaneTiming s
  | .laneGovernor => Sys2Proof.Machine.execLaneGovernor s
  | .laneRoutes => Sys2Proof.Machine.execLaneRoutes s
  | .laneWatch => Sys2Proof.Machine.execLaneWatch s
  | .laneCoverFill => Sys2Proof.Machine.execLaneCoverFill s
  | .laneSplice => Sys2Proof.Machine.execLaneSplice s
  | .laneEnter => Sys2Proof.Machine.execLaneEnter s
  | .laneExitGentle => Sys2Proof.Machine.execLaneExitGentle s
  | .laneExitNow => Sys2Proof.Machine.execLaneExitNow s
  | .laneDump => Sys2Proof.Machine.execLaneDump s
  | .laneMark => Sys2Proof.Machine.execLaneMark s
  | .laneCutToMark => Sys2Proof.Machine.execLaneCutToMark s
  | .laneCoverOn => Sys2Proof.Machine.execLaneCoverOn s
  | .laneCoverOff => Sys2Proof.Machine.execLaneCoverOff s
  | .laneLink => Sys2Proof.Machine.execLaneLink s
  | .laneUnlink => Sys2Proof.Machine.execLaneUnlink s
  | .laneStatus => Sys2Proof.Machine.execLaneStatus s
  | .arrivalStart l raster cutShort => Sys2Proof.Machine.execArrivalStart l raster cutShort s
  | .packetArrival l ty payload => Sys2Proof.Machine.execPacketArrival l ty payload s
  | .arrivalCompletion l d => Sys2Proof.Machine.execArrivalCompletion l d s
  | .laneTick l intakeFirst => Sys2Proof.Machine.execLaneTick l intakeFirst s
  | .inputLossDeclared l intakeFirst => Sys2Proof.Machine.execInputLossDeclared l intakeFirst s
  | .governorForce l intakeFirst => Sys2Proof.Machine.execGovernorForce l intakeFirst s
  | .referencePulse interval => Sys2Proof.Machine.execReferencePulse interval s
  | .referenceLost => Sys2Proof.Machine.execReferenceLost s
  | .transmitReply p => Sys2Proof.Machine.execTransmitReply p s
  | .transmitNotice p => Sys2Proof.Machine.execTransmitNotice p s

end Sys2Proof.Machine
end

