-- ==== Sys2Proof/Safety.lean ====
section
/-! DEFINITION. The terms in which claims about the part are made: which request the executor serves and by which row, a run
of several commands, who owns each page, and the invariants of the store, the lanes, the links, the panel and the ports. -/

namespace Sys2Proof.Machine

/-! ### Requests -/

/-- The executor takes request `r` of port `p` next (R169). -/
def Serves (s : State) (p : Port) (r : Request) : Prop := s.nextRequest = some (p, r)

/-- The controller's request of a code and body is the next one taken (R169, R172). -/
def Asks (s : State) (p : Port) (r : Request) (code : Byte) (body : List Byte) : Prop :=
  Serves s p r ∧ s.link.controller = p ∧ r.code = code ∧ r.body = body

/-- The next request has a code and body that either port may send (R172). -/
def AsksEither (s : State) (p : Port) (r : Request) (code : Byte) (body : List Byte) : Prop :=
  Serves s p r ∧ r.code = code ∧ r.body = body

/-- The state after a request is served: it leaves its queue, `effect` is applied, and the reply joins the reply queue
(R169, R170). -/
def served (s : State) (p : Port) (r : Request) (effect : State → State) (result : Result) (body : List Byte) : State :=
  (effect (s.takeRequest p)).reply p r { result := result, body := body }

/-- The row of the opcode table that a request belongs to, by its code and, where two rows share a code, its form
(10.2; log 24). -/
def rowOf (r : Request) : Instr :=
  match r.code.toNat with
  | 0x01 => .identify
  | 0x02 => .unitStatus
  | 0x03 => .restart
  | 0x04 => .takeControl
  | 0x05 => .setTakeover
  | 0x06 => .setNotices
  | 0x07 => .storeStatus
  | 0x08 => .storeClearCounts
  | 0x09 => .storeInject
  | 0x0A => if r.body[0]? = some 0 then .panelLockOff else .panelLockOn
  | 0x0B => .panelBindIn
  | 0x0C => .panelBindOut
  | 0x0D => .panelDrive
  | 0x0E => .panelStatus
  | 0x20 => .laneConfigure
  | 0x21 => .laneRelease
  | 0x22 => .laneTiming
  | 0x23 => .laneGovernor
  | 0x24 => .laneRoutes
  | 0x25 => .laneWatch
  | 0x26 => .laneCoverFill
  | 0x27 => .laneSplice
  | 0x28 => .laneEnter
  | 0x29 => if r.body[1]? = some 1 then .laneExitNow else .laneExitGentle
  | 0x2A => .laneDump
  | 0x2B => .laneMark
  | 0x2C => .laneCutToMark
  | 0x2D => if r.body[1]? = some 0 then .laneCoverOff else .laneCoverOn
  | 0x2E => .laneLink
  | 0x2F => .laneUnlink
  | 0x30 => .laneStatus
  | _ => .unknownMessage

/-- The body lengths listed for a code in 10.2; a code that is not listed has no length to keep. -/
def listedLength (code : Byte) (n : Nat) : Bool :=
  match code.toNat with
  | 0x01 | 0x03 | 0x04 | 0x08 => n == 0
  | 0x02 | 0x05 | 0x07 | 0x0A | 0x0E | 0x21 | 0x28 | 0x2A | 0x2B | 0x2C | 0x2F => n == 1
  | 0x29 | 0x2D | 0x2E => n == 2
  | 0x09 | 0x30 => n == 3
  | 0x0C | 0x0D | 0x27 => n == 4
  | 0x0B => n == 5
  | 0x22 | 0x26 => n == 7
  | 0x20 => n == 8
  | 0x23 => n == 11
  | 0x06 => n == 14
  | 0x24 => [2, 7, 12, 17, 22, 27, 32, 37, 42].contains n
  | 0x25 => [1, 9, 17, 25, 33].contains n
  | _ => true

/-- What the observer may send (R172): the unit's and the lanes' reports without a clear flag, its own port's notices, and
TAKE_CONTROL. An unknown code is answered before the sender is looked at (R170). -/
def observerMay (p : Port) (r : Request) : Bool :=
  match r.code.toNat with
  | 0x01 | 0x04 | 0x07 | 0x0E => true
  | 0x02 | 0x30 => r.body.getLast? == some 0
  | 0x06 => r.body.head? == some (portByte p)
  | n => !([0x03, 0x05, 0x08, 0x09, 0x0A, 0x0B, 0x0C, 0x0D] ++ List.range' 0x20 16).contains n

/-- Every enumerated and yes-or-no byte of a request is one of its listed values, every lane and panel line number in its
range, a lane mask names lanes 1 to 4 alone, and a lane function of an output line names a lane (R179, R181 to R185 for the
lists; R1, R6, R39, R56, R59, R103, R133, R157, R161, R173, R176 for the refusal). The body has a listed length. -/
def argumentsOk (r : Request) : Bool :=
  let n (i : Nat) : Nat := (r.body.getD i 0).toNat
  let within (i low high : Nat) : Bool := low ≤ n i && n i ≤ high
  let lane (i : Nat) : Bool := within i 1 4
  let line : Bool := within 0 1 16
  match r.code.toNat with
  | 0x02 | 0x05 | 0x07 | 0x0A | 0x0E => n 0 ≤ 1
  | 0x06 => n 0 ≤ 1 && (List.range 13).all fun k => n (k + 1) ≤ 3
  | 0x09 => n 0 ≤ 7 && n 1 ≤ 1 && n 2 ≤ 1
  | 0x0B => line && n 1 ≤ 6 && n 2 ≤ 15 && n 3 ≤ 1
  | 0x0C => line && n 1 ≤ 7 && n 2 ≤ 4 && n 3 ≤ 1 && !(within 1 1 5 && n 2 == 0)
  | 0x0D => line && n 1 ≤ 1 && n 2 ≤ 1 && n 3 ≤ 1
  | 0x20 => lane 0 && n 1 ≤ 7 && n 2 ≤ 2 && [2, 4, 8, 16].contains (n 3) && n 7 ≤ 1
  | 0x24 => lane 0 && n 1 ≤ 3 && (List.range ((r.body.length - 2) / 5)).all fun k => n (5 * k + 6) ≤ 3
  | 0x25 => lane 0 && (List.range ((r.body.length - 1) / 8)).all fun k => n (8 * k + 8) ≤ 3
  | 0x26 | 0x27 | 0x29 | 0x2D => lane 0 && n 1 ≤ 1
  | 0x2E => lane 0 && lane 1
  | 0x30 => lane 0 && n 1 ≤ 2 && n 2 ≤ 1
  | 0x21 | 0x22 | 0x23 | 0x28 | 0x2A | 0x2B | 0x2C | 0x2F => lane 0
  | _ => true

/-! ### The ports' terms -/

/-- The CRC of R167 as a shift register fed one bit at a time, each byte most significant bit first. -/
def crcSerial (bits : List Bool) : BitVec 16 :=
  bits.foldl (fun c x => if c.msb != x then (c <<< 1) ^^^ 0x1021#16 else c <<< 1) 0xFFFF#16

/-- The bits of a byte, most significant first. -/
def bitsOf (b : Byte) : List Bool := (List.range 8).map fun i => b.getMsbD i

/-- A port is eligible (R169). -/
def Eligible (q : PortState) : Prop := q.inbound ≠ [] ∧ q.replies.length < 4

/-- The place of an entry in the order of sending on a port (R177): an entry of a HIGH kind before one of a LOW kind, then
the kind's default order, then the lane with the unit first. -/
def SentBefore (q : PortState) (e x : NoticeEntry) : Prop :=
  let high (y : NoticeEntry) : Bool := (q.kinds.get (kindIndex y.detail)).high
  (high e = true ∧ high x = false) ∨
  (high e = high x ∧ (kindNo e.detail < kindNo x.detail ∨
    (kindNo e.detail = kindNo x.detail ∧ (laneByte e.lane).toNat < (laneByte x.lane).toNat)))

/-! ### Runs -/

/-- Commands executed one after another. -/
def runCommands : List Instr → State → Host.Outcome State Fault Refusal
  | [], s => .next s
  | c :: rest, s =>
    match exec c s with
    | .next t => runCommands rest t
    | .fault f => .fault f
    | .refused r => .refused r

/-! ### The store -/

/-- The pages that belong to a lane, none in OFF (R28). -/
def State.pagesOf (s : State) (l : Lane) : List PageNo := ((s.body? l).map LaneBody.pages).getD []

/-- Every page is in the free list or belongs to one lane's in-arrival frame, records or output hold, and to one only; each
lane's in-use count is the number of its pages (R28, R31). -/
def PagesOwned (s : State) : Prop :=
  (freeList s.store.free ++ allLanes.flatMap s.pagesOf).Perm (List.range Config.poolPages) ∧
  ∀ l, s.store.inUse.get l = (s.pagesOf l).length

/-- A configured lane keeps within a budget of `budget` pages (R2, R31, R68): its M follows from the budget, its line and
in-arrival frame need no more than M records, and no frame takes more than ppf pages. -/
def LaneBody.WithinBudget (b : LaneBody) (budget : Nat) : Prop :=
  let ppf := pagesPerFrame b.fmt.vclass
  6 * ppf ≤ budget ∧ b.maxH = min 4096 (budget / ppf - 2) ∧
  b.h + (if b.intake.arrival.isSome then 1 else 0) ≤ b.maxH ∧
  (∀ f, b.intake.arrival = some f → f.pages.length ≤ ppf) ∧
  (∀ r ∈ b.dl.records, r.pages.length ≤ ppf) ∧
  (∀ r, b.play.hold = some r → r.pages.length ≤ ppf)

/-- Every lane keeps within its budget, an OFF lane's being 0, and the budgets total at most the pool (R30, R31). -/
def BudgetsKept (s : State) : Prop :=
  (∀ l, match s.body? l with
    | none => s.store.budget.get l = 0
    | some b => b.WithinBudget (s.store.budget.get l)) ∧
  s.store.budget.l1 + s.store.budget.l2 + s.store.budget.l3 + s.store.budget.l4 ≤ Config.poolPages

/-- The error map's canonical form: addresses strictly rising. -/
def Store.wf (st : Store) : Bool := decide (st.errs.Pairwise fun a b => a.1 < b.1)

/-- The error that a word of the pool holds. -/
def errAt (st : Store) (addr : Nat) : Option WordErr := (st.errs.find? fun e => e.1 == addr).map (·.2)

/-! ### Reports -/

/-- Notices posted one after another, each at both ports (R175). -/
def State.postAll (s : State) (posts : List (Option Lane × Detail)) : State :=
  posts.foldl (fun u x => u.post x.1 x.2) s

/-- A lane's counters after packets are dropped at a list: LIVE packets count in ANC_DROPPED, the others in CARRY_LOST
(R80). -/
def LaneCounters.lose (c : LaneCounters) (dropped : List Packet) : LaneCounters :=
  { c with
    ancDropped := satAdd 65535 c.ancDropped (dropped.filter (·.source == .live)).length
    carryLost := satAdd 65535 c.carryLost (dropped.filter (·.source != .live)).length }

/-- The CARRY_LOST notice of an event that drops CARRY or SPLICE packets: where, how many and the last one's type
(R85, R181; log 12). -/
def lostPosts (l : Lane) (departure : Bool) (dropped : List Packet) : List (Option Lane × Detail) :=
  match (dropped.filter (·.source != .live)).getLast? with
  | none => []
  | some p => [(some l, .carryLost departure (min 255 (dropped.filter (·.source != .live)).length) p.type)]

/-! ### The lanes' terms -/

/-- A former follower's body once it is independent (R26, R147). -/
def independent (b : LaneBody) : LaneBody :=
  let orphan := (b.mode = .build ∨ b.mode = .onTarget ∨ b.mode = .trim) ∧ b.timing.target = none
  let mode := if orphan then .drain else b.mode
  { b with
    link := none
    mode := mode
    intake := { b.intake with discardThrough := none }
    dl := { b.dl with sources := { b.dl.sources with leader := false } }
    gov := { b.gov with engaged := decide (mode = .drain), since := 0 } }

/-- The notice of a follower moved to DRAIN when it becomes independent without a target (R26). -/
def unlinkedPosts (l : Lane) (b : LaneBody) : List (Option Lane × Detail) :=
  if b.mode ≠ (independent b).mode then [(some l, .laneState (some .drain) .unlinked)] else []

/-- A cover onset (R77): of the records, the newest as many as the cover lead are flagged, and the in-arrival frame. -/
def flagged (b : LaneBody) : LaneBody :=
  { b with
    dl := { b.dl with records := b.dl.records.mapIdx fun i r =>
      if b.h ≤ i + b.timing.lead.frames then { r with covered := true } else r }
    intake := { b.intake with arrival := b.intake.arrival.map fun f => { f with covered := true } } }

/-- A lane whose cover source set gains a source, with an onset when the set was empty (R76). -/
def coveredBy (src : CoverSource) (b : LaneBody) : LaneBody :=
  let c := { b with dl := { b.dl with sources := b.dl.sources.put src true } }
  if b.dl.sources = .empty then flagged c else c

/-- A lane whose cover source set loses a source (R76, R78). -/
def uncoveredBy (src : CoverSource) (b : LaneBody) : LaneBody :=
  { b with dl := { b.dl with sources := b.dl.sources.put src false } }

/-- A mark whose frame leaves the line among the seqs given is GONE for the reason given (R75). -/
def markAfter (m : Option Mark) (seqs : List Seq) (why : GoneReason) : Option Mark :=
  m.map fun k => if k.standing = .held ∧ k.seq ∈ seqs then { k with standing := .gone why } else k

/-- The bytes of a route table entry (R183). -/
def routeBytes (e : RouteEntry) : List Byte :=
  let cls : Byte := match e.cls with | .live => 0 | .delay => 1 | .carry => 2 | .drop => 3
  be16 e.low.toNat ++ be16 e.high.toNat ++ [cls]

/-- The bytes of a watch list entry (R183), its match bytes filled up to four with 0. -/
def watchBytes (e : WatchEntry) : List Byte :=
  let action : Byte := match e.action with | .mark => 0 | .coverOn => 1 | .coverOff => 2 | .notify => 3
  be16 e.type.toNat ++ BitVec.ofNat 8 e.bytes.length :: (e.bytes ++ List.replicate (4 - e.bytes.length) 0) ++ [action]

/-! ### The lanes -/

/-- The bounds that the manual gives for a configured lane's counts and settings (2 and 3 of the state tables, R18, R20, R53,
R80, R107, R115, R121, R122). -/
def LaneBody.Bounded (b : LaneBody) : Prop :=
  (∀ t, b.timing.target = some t → t.ms ≤ 60000 ∧ 2 ≤ t.frames ∧ t.frames ≤ b.maxH - 2) ∧
  (b.timing.dump.ms = 0 ∨ (1 ≤ b.timing.dump.frames ∧ b.timing.dump.frames ≤ b.maxH)) ∧
  b.timing.lead.frames ≤ b.maxH ∧
  b.intake.ticksSince ≤ 3 ∧ b.intake.owed ≤ 3 ∧ (∀ f, b.intake.arrival = some f → f.accepted ≤ 32) ∧
  b.dl.carried.length ≤ 32 ∧ b.dl.departing.length ≤ 32 ∧
  b.play.phase < cadencePeriod b.fmt.rate ∧ b.play.tonePhase < 48 ∧ b.play.quietRun ≤ 255 ∧
  b.gov.since ≤ 65535 ∧ b.gov.inserts ≤ 65535 ∧ b.gov.skips ≤ 65535 ∧
  b.govSet.threshold ≤ 8388607 ∧ (1 ≤ b.govSet.q ∧ b.govSet.q ≤ 60) ∧ (1 ≤ b.govSet.s ∧ b.govSet.s ≤ 250) ∧
  (b.govSet.f = 0 ∨ (b.govSet.s ≤ b.govSet.f ∧ b.govSet.f ≤ 6000)) ∧ (1 ≤ b.govSet.e ∧ b.govSet.e ≤ 250) ∧
  b.play.fill.amplitude ≤ 8388607

/-- The packets of class CARRY among own packets, in order, as entries of a packet list (R55, R70, R80). -/
def carryPackets (own : List OwnPacket) : List Packet :=
  (own.filter (·.carry)).map fun p => { source := .carry, type := p.type, payload := p.payload }

/-- The carry store's copies (R70): a record's are its carried prefix and then its CARRY own packets, the in-arrival frame's
its CARRY own packets. -/
def LaneBody.CarryKept (b : LaneBody) : Prop :=
  (∀ r ∈ b.dl.records, r.carryCopy = r.carriedPrefix ++ carryPackets r.own) ∧
  ∀ f, b.intake.arrival = some f → f.carryCopy = carryPackets f.own

/-- A lane's ten counters stop at 65,535 (R5). -/
def LaneCounters.Bounded (c : LaneCounters) : Prop :=
  c.underrun ≤ 65535 ∧ c.overflow ≤ 65535 ∧ c.slip ≤ 65535 ∧ c.damaged ≤ 65535 ∧ c.malformed ≤ 65535 ∧
  c.formatMismatch ≤ 65535 ∧ c.ancDropped ≤ 65535 ∧ c.ancLost ≤ 65535 ∧ c.carryLost ≤ 65535 ∧ c.linkSlip ≤ 65535

/-- A bank's three counters stop at 65,535 (R38). -/
def Bank.Bounded (k : Bank) : Prop := k.correctedData ≤ 65535 ∧ k.correctedCheck ≤ 65535 ∧ k.uncorrectable ≤ 65535

/-- Every configured lane keeps its bounds and its carry store, with an M of at least 4 (R2); every lane's counters and every
bank's stop at 65,535. -/
def LanesBounded (s : State) : Prop :=
  (∀ l b, s.body? l = some b → 4 ≤ b.maxH ∧ b.Bounded ∧ b.CarryKept) ∧
  (∀ l, (s.lanes.get l).counters.Bounded) ∧ ∀ k, (s.store.banks.get k).Bounded

/-! ### The order of a line and the place of its mark -/

/-- How far a seq lies behind the lane's next-seq, modulo 2^32 (R45). -/
def LaneBody.behind (b : LaneBody) (q : Seq) : Nat := (b.intake.nextSeq - q).toNat

/-- The seqs of the held records, head first, and then of the in-arrival frame. -/
def LaneBody.seqs (b : LaneBody) : List Seq := b.dl.records.map (·.seq) ++ (b.intake.arrival.map (·.seq)).toList

/-- The seqs of a lane are distinct and rise towards the next-seq, which lies beyond them all (R45, R71). -/
def LaneBody.InOrder (b : LaneBody) : Prop :=
  b.seqs.Pairwise (fun x y => b.behind y < b.behind x) ∧ ∀ q ∈ b.seqs, 1 ≤ b.behind q

/-- A mark stands where its standing says (R73, R74): PENDING on the next-seq with no frame arriving, ARRIVING on the in-arrival
frame, HELD on a held record. -/
def LaneBody.MarkPlaced (b : LaneBody) : Prop :=
  ∀ m, b.dl.mark = some m →
    match m.standing with
    | .pending => b.intake.arrival = none ∧ m.seq = b.intake.nextSeq
    | .arriving => b.intake.arrival.map (·.seq) = some m.seq
    | .held => m.seq ∈ b.dl.records.map (·.seq)
    | .gone _ => True

/-- Every configured lane's seqs are in order and its mark is in place. -/
def SeqsKept (s : State) : Prop := ∀ l b, s.body? l = some b → b.InOrder ∧ b.MarkPlaced

/-- No seq of a lane lies so far behind the next-seq that one more command could bring the next-seq round to it: a command
assigns at most the fills owed and three more. -/
def SeqsSpan (s : State) : Prop :=
  ∀ l b, s.body? l = some b → ∀ q ∈ b.seqs, b.behind q + b.intake.owed + 3 < 4294967296

/-- What holds of a follower and its leader (R23, R25, R124, R146, R147): the leader is another configured lane of the same
rate, and no follower itself; the follower is in its leader's state, or still in DRAIN while it owes actions to a leader
that is already in PASS; it holds LEADER exactly while its leader's cover source set is not empty. -/
def FollowsWell (leader : LaneBody) (k : FollowerLink) (b : LaneBody) : Prop :=
  leader.link = none ∧ leader.fmt.rate = b.fmt.rate ∧
  (b.mode = leader.mode ∨ (b.mode = .drain ∧ leader.mode = .pass ∧ k.pending ≠ 0)) ∧
  -8 ≤ k.pending ∧ k.pending ≤ 8 ∧ b.dl.sources.leader = !leader.dl.sources.isEmpty

/-- Every link is well kept, and a lane that is not a follower has no discard-through value, does not hold LEADER, and has a
target while it is in BUILD, ON_TARGET or TRIM (R9, R26, R61, R145). -/
def LinksKept (s : State) : Prop :=
  ∀ l b, s.body? l = some b →
    match b.link with
    | some k => k.leader ≠ l ∧ ∃ leader, s.body? k.leader = some leader ∧ FollowsWell leader k b
    | none =>
      b.intake.discardThrough = none ∧ b.dl.sources.leader = false ∧
      (b.mode = .build ∨ b.mode = .onTarget ∨ b.mode = .trim → b.timing.target.isSome)

/-! ### The panel -/

/-- What holds of the panel (R152, R154, R158): each filter count is below its filter length 1..32, a group is FIRED exactly
while some member's filtered level is active, and while lockout is on every line is inactive with its count at 0. -/
def PanelKept (s : State) : Prop :=
  (∀ i : Fin 16, let x := s.panel.inputs.get i
    1 ≤ x.length ∧ x.length ≤ 32 ∧ x.count < x.length ∧
    (s.panel.lockout = true → x.level = false ∧ x.count = 0)) ∧
  (∀ g, g ∈ s.panel.fired ↔ s.panel.anyActive g = true)

/-! ### The ports -/

/-- What holds of a port's receiver (R165): a frame in progress has a legal length byte and no more bytes than that. -/
def ReceiverKept : Receiver → Prop
  | .hunting | .length => True
  | .content len got => 2 ≤ len.toNat ∧ len.toNat ≤ 60 ∧ got.length < len.toNat
  | .check len got _ => 2 ≤ len.toNat ∧ len.toNat ≤ 60 ∧ got.length = len.toNat

/-- What holds of a port (R165, R167, R168, R169, R175): its queues hold at most 4 entries, its counters stop at 65,535, its
pending set holds each kind and lane once, in order, with a count of 1 to 255, and only kinds that the port keeps. -/
def PortState.Kept (p : PortState) : Prop :=
  ReceiverKept p.rx ∧ p.inbound.length ≤ 4 ∧ p.replies.length ≤ 4 ∧
  p.gapError ≤ 65535 ∧ p.crcError ≤ 65535 ∧ p.frameError ≤ 65535 ∧ p.overflowDiscard ≤ 65535 ∧
  p.notices.Pairwise (fun a b => a.key < b.key) ∧
  ∀ e ∈ p.notices, 1 ≤ e.count ∧ e.count ≤ 255 ∧ p.keeps e.detail = true

/-- Both ports are well kept; while restart is pending both receivers are HUNTING (R174). -/
def PortsKept (s : State) : Prop :=
  ∀ p, (s.link.ports.get p).Kept ∧ (s.link.restartPending.isSome = true → (s.link.ports.get p).rx = .hunting)

end Sys2Proof.Machine
end

