-- ==== Sys2Proof/Certificates/Slice0/Obligations.lean ====
section
/-! DEFINITION. The statements about the part, each with the rules it comes from. -/

section

open Sys2Proof Sys2Proof.Machine

/-! ### One command, one step -/

/-- Every step executes the command at the front of the queue on the state with the queue's rest; with no command waiting the
block idles, which is the model's choice (log 3). -/
def Obligations.StepExecutesTheFrontCommand : Prop :=
  (∀ (s : State) (c : Instr) (rest : List Instr), s.pending = c :: rest → step s = exec c { s with pending := rest }) ∧
  ∀ s : State, s.pending = [] → step s = .next s

/-! ### The control ports: receivers -/

/-- RECEIVE_BYTE and GAP_EXPIRY, by the receiver's table (R165 to R168): each state, each class of byte and a stop error; at
a frame's last byte, a CRC that differs counts CRC_ERROR, a matching frame joins a queue with room, and without room counts
OVERFLOW_DISCARD and sets the overflow-seen flag; a gap discards the partial frame, counts GAP_ERROR, and the byte after it
is examined in HUNTING. While restart is pending no byte is taken (R174). Only the named port changes. -/
def Obligations.ReceiverFollowsItsTable : Prop :=
  (∀ (s : State) (p : Port) (b : Byte) (stop : Bool) (q : PortState), s.link.ports.get p = q →
    let out (rx : Receiver) : Host.Outcome State Fault Refusal := .next (s.modPort p fun q => { q with rx := rx })
    let abandoned (rx : Receiver) : Host.Outcome State Fault Refusal :=
      .next (s.modPort p fun q => { q with rx := rx, frameError := satAdd 65535 q.frameError 1 })
    (s.link.restartPending.isSome = true → exec (.receiveByte p b stop) s = .next s) ∧
    (s.link.restartPending = none →
      (q.rx = .hunting → exec (.receiveByte p b stop) s = if b = 0xA7 ∧ stop = false then out .length else .next s) ∧
      (q.rx ≠ .hunting → stop = true → exec (.receiveByte p b stop) s = abandoned .hunting) ∧
      (stop = false →
        (q.rx = .length → exec (.receiveByte p b stop) s =
          if 2 ≤ b.toNat ∧ b.toNat ≤ 60 then out (.content b [])
          else abandoned (if b = 0xA7 then .length else .hunting)) ∧
        (∀ len got, q.rx = .content len got → exec (.receiveByte p b stop) s =
          if got.length + 1 < len.toNat then out (.content len (got ++ [b])) else out (.check len (got ++ [b]) none)) ∧
        (∀ len got, q.rx = .check len got none → exec (.receiveByte p b stop) s = out (.check len got (some b)))))) ∧
  (∀ (s : State) (p : Port) (len tag code : Byte) (body : List Byte) (c1 c2 : Byte),
    s.link.restartPending = none → (s.link.ports.get p).rx = .check len (tag :: code :: body) (some c1) →
    exec (.receiveByte p c2 false) s = .next (s.modPort p fun q =>
      if crcBytes (len :: tag :: code :: body) ≠ [c1, c2] then
        { q with rx := .hunting, crcError := satAdd 65535 q.crcError 1 }
      else if q.inbound.length < 4 then
        { q with rx := .hunting, inbound := q.inbound ++ [{ tag := tag, code := code, body := body }] }
      else { q with rx := .hunting, overflowDiscard := satAdd 65535 q.overflowDiscard 1, overflowSeen := true })) ∧
  ∀ (s : State) (p : Port),
    ((s.link.ports.get p).rx = .hunting → exec (.gapExpiry p) s = .next s) ∧
    ((s.link.ports.get p).rx ≠ .hunting →
      ∃ t, exec (.gapExpiry p) s = .next t ∧
        t = s.modPort p (fun q => { q with rx := .hunting, gapError := satAdd 65535 q.gapError 1 }) ∧
        ∀ b : Byte, s.link.restartPending = none → exec (.receiveByte p b false) t =
          .next (if b = 0xA7 then t.modPort p (fun q => { q with rx := .length }) else t))

/-- The model's byte-wise CRC is the remainder under 0x1021 with initial value 0xFFFF taken bit by bit over the bytes, most
significant bit first, with no reflection and no final exclusive-or, sent high byte first (R167). -/
def Obligations.CrcIsTheBitSerialRemainder : Prop :=
  ∀ bytes : List Byte, crcBytes bytes =
    [(crcSerial (bytes.flatMap bitsOf)).extractLsb' 8 8, (crcSerial (bytes.flatMap bitsOf)).extractLsb' 0 8]

/-- A request sent as a frame arrives whole (10.1, R165, R167): the bytes of any request of at most 58 body bytes, received
one after another by a HUNTING port, put exactly that request at the tail of the port's inbound queue, or, when the queue is
full, count OVERFLOW_DISCARD and set the overflow-seen flag; nothing else changes. -/
def Obligations.RequestFrameArrivesWhole : Prop :=
  ∀ (s : State) (p : Port) (tag code : Byte) (body : List Byte),
    body.length ≤ 58 → s.link.restartPending = none → (s.link.ports.get p).rx = .hunting →
    runCommands (requestCommands p tag code body) s = .next (s.modPort p fun q =>
      if q.inbound.length < 4 then { q with inbound := q.inbound ++ [{ tag := tag, code := code, body := body }] }
      else { q with overflowDiscard := satAdd 65535 q.overflowDiscard 1, overflowSeen := true })

/-! ### The control ports: the executor -/

/-- Which request the executor takes (R169): the oldest of the one eligible port, or with both eligible that of the port other
than the last-served; none when no port is eligible or while restart is pending. Taking it makes its port the last-served one
and changes nothing else; the last-served port is B after each reset. That the executor is free at every row, and chooses from
what is eligible when the row comes, is the model's choice (log 31). -/
def Obligations.ExecutorServesThePortsInTurn : Prop :=
  (∀ s : State, ∀ p r, Serves s p r ↔
    s.link.restartPending = none ∧ Eligible (s.link.ports.get p) ∧ (s.link.ports.get p).inbound.head? = some r ∧
    (Eligible (s.link.ports.get p.other) → p ≠ s.link.lastServed)) ∧
  (∀ (s : State) (p : Port), s.takeRequest p = { s with link := { s.link with
    lastServed := p
    ports := s.link.ports.set p { s.link.ports.get p with inbound := (s.link.ports.get p).inbound.tail } } }) ∧
  (∀ (s t : State) (x : Bool), exec (.powerUp x) s = .next t ∨ exec (.resetN x) s = .next t → t.link.lastServed = .b) ∧
  ∀ (s t : State), s.link.restartPending ≠ none → exec .restartEffect s = .next t → t.link.restartPending = none →
    t.link.lastServed = .b

/-- The executor's checks in order (R170, R179, R6 step 1): an unlisted code is answered UNKNOWN_MESSAGE, then a body of a
length not listed BAD_LENGTH, then a request that the observer may not send NOT_CONTROLLER, then one with an argument outside
its listed values BAD_ARGUMENT, whatever the lane's state: a lane or panel line number, an enumerated or yes-or-no byte, a lane
mask (R1, R56, R59, R157, R161). Each leaves everything but the queues as it was. -/
def Obligations.ExecutorChecksInOrder : Prop :=
  ∀ (s : State) (p : Port) (r : Request), Serves s p r →
    (r.code ∉ requestCodes → exec .unknownMessage s = .next (served s p r id .unknownMessage [])) ∧
    (r.code ∈ requestCodes → listedLength r.code r.body.length = false →
      exec (rowOf r) s = .next (served s p r id .badLength [])) ∧
    (r.code ∈ requestCodes → listedLength r.code r.body.length = true → s.link.controller ≠ p →
      observerMay p r = false → exec (rowOf r) s = .next (served s p r id .notController [])) ∧
    (r.code ∈ requestCodes → listedLength r.code r.body.length = true → s.link.controller = p ∨ observerMay p r = true →
      argumentsOk r = false → exec (rowOf r) s = .next (served s p r id .badArgument []))

/-- Every request the executor takes completes in its row's command with one reply, at the tail of its port's reply queue;
where the result refuses it, nothing but the queues has changed (R170, R180). -/
def Obligations.EveryRequestGetsOneReply : Prop :=
  ∀ (s : State) (p : Port) (r : Request), Serves s p r →
    ∃ (u : State) (result : Result) (body : List Byte),
      exec (rowOf r) s = .next (u.reply p r { result := result, body := body }) ∧
      (u.link.ports.get p).replies = (s.link.ports.get p).replies ∧
      (u.link.ports.get p).inbound = (s.link.ports.get p).inbound.tail ∧
      (result ∉ [Result.ok, .clamped, .partialCut, .markAired] → u = s.takeRequest p ∧ body = [])

/-- What the observer sends changes no lane, no page accounting, no panel and no tick generator state; and unless it is
TAKE_CONTROL, no role (R172). -/
def Obligations.ObserverChangesNoBlock : Prop :=
  ∀ (s t : State) (p : Port) (r : Request), Serves s p r → s.link.controller ≠ p → exec (rowOf r) s = .next t →
    t.lanes = s.lanes ∧ t.store = s.store ∧ t.panel = s.panel ∧ t.tick = s.tick ∧ t.pending = s.pending ∧
    t.link.takeoverAllowed = s.link.takeoverAllowed ∧ t.link.restartPending = none ∧
    (r.code ≠ 0x04 → t.link.controller = s.link.controller)

/-! ### Replies, notices, roles, resets -/

/-- A reply waits with the request's tag and code and the role of its port at the execution (R170); TRANSMIT_REPLY takes the
oldest, writes the overflow-seen flag into its status byte and clears it, and puts its frame on the line (R171, R180, 10.3):
start byte, length, tag, code plus 0x80 modulo 256, status byte, body, CRC. With no reply queued nothing is taken. That the
command comes when the transmitter is free is the model's convention (log 16). -/
def Obligations.RepliesAreSentOldestFirst : Prop :=
  (∀ (s : State) (p : Port) (r : Request) (a : Answer), s.reply p r a = s.modPort p fun q => { q with
    replies := q.replies ++ [
      { tag := r.tag, code := r.code, result := a.result, isController := decide (s.link.controller = p), body := a.body }] }) ∧
  ∀ (s : State) (p : Port),
    ((s.link.ports.get p).replies = [] → exec (.transmitReply p) s = .next s) ∧
    ∀ r rest, (s.link.ports.get p).replies = r :: rest →
      let flags := (if (s.link.ports.get p).overflowSeen then 32 else 0) + (if r.isController then 64 else 0)
      let counted : List Byte := BitVec.ofNat 8 (3 + r.body.length) :: r.tag :: (r.code + 0x80) ::
        BitVec.ofNat 8 (resultNo r.result + flags) :: r.body
      exec (.transmitReply p) s = .next (s.modPort p fun q =>
        { q with replies := rest, overflowSeen := false, onLine := some (0xA7 :: (counted ++ crcBytes counted)) })

/-- A posting at a port whose pending set is in order (R175): a kind that the port keeps raises the count of its kind and
lane's entry by one, up to 255, with the new detail, or makes an entry of count 1; every other entry stays; a kind that is
not kept changes nothing. A block's posting is offered to both ports. -/
def Obligations.PostingsCoalesce : Prop :=
  (∀ (q : PortState) (l : Option Lane) (d : Detail), q.notices.Pairwise (fun a b => a.key < b.key) →
    let e : NoticeEntry := { lane := l, detail := d, count := 1 }
    let find (m : List NoticeEntry) (k : Nat) : Option NoticeEntry := m.find? fun x => x.key == k
    (q.keeps d = false → q.post l d = q) ∧
    (q.keeps d = true →
      (q.post l d).notices.Pairwise (fun a b => a.key < b.key) ∧
      ((find q.notices e.key = none → find (q.post l d).notices e.key = some e) ∧
       ∀ x, find q.notices e.key = some x → find (q.post l d).notices e.key =
         some { x with detail := d, count := max x.count (min 255 (x.count + 1)) }) ∧
      (∀ k, k ≠ e.key → find (q.post l d).notices k = find q.notices k) ∧
      q.post l d = { q with notices := (q.post l d).notices })) ∧
  ∀ (s : State) (l : Option Lane) (d : Detail), s.post l d = { s with link := { s.link with ports :=
    { a := s.link.ports.a.post l d, b := s.link.ports.b.post l d } } }

/-- TRANSMIT_NOTICE (R177, R181): with no reply queued, the entry that precedes all others leaves the pending set and its
frame goes on the line. With a reply queued, no entry pending, or on the port whose RESTART reply is being sent (R174),
nothing is taken. That the command comes when the transmitter is free is the model's convention (log 16). -/
def Obligations.NoticesAreSentInOrder : Prop :=
  ∀ (s : State) (p : Port) (q : PortState), s.link.ports.get p = q →
    (q.replies ≠ [] ∨ q.notices = [] ∨ s.link.restartPending = some p → exec (.transmitNotice p) s = .next s) ∧
    (q.replies = [] → s.link.restartPending ≠ some p → q.notices.Pairwise (fun a b => a.key < b.key) →
      ∀ e ∈ q.notices, (∀ x ∈ q.notices, x = e ∨ SentBefore q e x) →
        let detail := detailBytes e.detail
        let counted : List Byte := 11 :: 0x00 :: 0xFE :: BitVec.ofNat 8 (kindNo e.detail) :: laneByte e.lane ::
          BitVec.ofNat 8 e.count :: (detail ++ List.replicate (6 - detail.length) 0)
        exec (.transmitNotice p) s = .next (s.modPort p fun q =>
          { q with notices := q.notices.filter (fun x => x != e), onLine := some (0xA7 :: (counted ++ crcBytes counted)) }))

/-- SET_NOTICES (R176): a port's masks and classes are replaced whole, and entries of kinds now disabled are removed, but
for CONTROL_LOST; from the controller for either port, from the observer for its own. -/
def Obligations.SetNoticesReplacesThePortsKinds : Prop :=
  ∀ (s : State) (p q : Port) (r : Request) (ks : Vector KindSetting 13),
    AsksEither s p r 0x06 (portByte q :: ks.toList.map kindSettingByte) → s.link.controller = p ∨ q = p →
    exec .setNotices s = .next (served s p r (fun u => u.modPort q fun x => { x with
        kinds := ks
        notices := x.notices.filter fun e => kindNo e.detail == 1 || (ks.get (kindIndex e.detail)).enabled })
      .ok (portByte q :: ks.toList.map kindSettingByte))

/-- IDENTIFY, UNIT_STATUS with and without its clear flag, and a code that is not listed, each from either port (R168, R170,
R181). The snapshot shows the counters as they stand before the clear. -/
def Obligations.UnitQueriesAnswer : Prop :=
  ∀ (s : State) (p : Port) (r : Request),
    (AsksEither s p r 0x01 [] → exec .identify s = .next (served s p r id .ok [0x0C, 0x4A, 0x0D, 0x44, 0x03])) ∧
    (∀ clear : Bool, AsksEither s p r 0x02 [boolByte clear] → (clear = true → s.link.controller = p) →
      let counters (q : Port) : List Byte := be16 (s.link.ports.get q).gapError ++ be16 (s.link.ports.get q).crcError ++
        be16 (s.link.ports.get q).frameError ++ be16 (s.link.ports.get q).overflowDiscard
      let flag (n : Nat) (x : Bool) : Nat := if x then n else 0
      let zero (q : PortState) : PortState := { q with gapError := 0, crcError := 0, frameError := 0, overflowDiscard := 0 }
      exec .unitStatus s = .next (served s p r
        (fun u => if clear then (u.modPort .a zero).modPort .b zero else u) .ok
        (BitVec.ofNat 8 (flag 1 (s.link.controller == .a) + flag 2 (!s.link.takeoverAllowed) +
            flag 4 (s.link.lineRate == .baud115200) + flag 8 s.tick.locked.isSome) ::
          (counters .a ++ counters .b ++ [stateByte (s.mode? .l1), stateByte (s.mode? .l2), stateByte (s.mode? .l3),
            stateByte (s.mode? .l4)])))) ∧
    (Serves s p r → r.code ∉ requestCodes → exec .unknownMessage s = .next (served s p r id .unknownMessage []))

/-- TAKE_CONTROL and SET_TAKEOVER (R173): the observer takes the role where takeover is allowed, and CONTROL_LOST is posted
on the port that lost it alone; where it is locked it is refused TAKEOVER_LOCKED; from the controller nothing changes. The
controller sets the takeover-allowed flag, another value than its two is refused BAD_ARGUMENT, and the observer is refused
NOT_CONTROLLER. The flag is allowed after POWER_UP and RESETN, and RESTART keeps it. -/
def Obligations.RolesChangeHands : Prop :=
  ∀ (s : State) (p : Port) (r : Request),
    (AsksEither s p r 0x04 [] →
      exec .takeControl s = .next (
        if s.link.controller = p then served s p r id .ok []
        else if s.link.takeoverAllowed = false then served s p r id .takeoverLocked []
        else served s p r (fun u => ({ u with link := { u.link with controller := p } } : State).modPort p.other fun q =>
          { q with notices := insertNotice { lane := none, detail := .controlLost p, count := 1 } q.notices }) .ok [])) ∧
    (∀ locked : Bool, Asks s p r 0x05 [boolByte locked] →
      exec .setTakeover s = .next (served s p r (fun u => { u with link := { u.link with takeoverAllowed := !locked } }) .ok
        [boolByte locked])) ∧
    (∀ v : Byte, 2 ≤ v.toNat → Asks s p r 0x05 [v] → exec .setTakeover s = .next (served s p r id .badArgument [])) ∧
    (∀ v : Byte, AsksEither s p r 0x05 [v] → s.link.controller ≠ p →
      exec .setTakeover s = .next (served s p r id .notController [])) ∧
    (∀ t x, exec (.powerUp x) s = .next t ∨ exec (.resetN x) s = .next t → t.link.takeoverAllowed = true) ∧
    ∀ t, exec .restartEffect s = .next t → t.link.takeoverAllowed = s.link.takeoverAllowed

/-- RESTART and RESTART_EFFECT (R174, R17, R42, R89, R163, R178). At the execution restart pending is set to the port, both
receivers are HUNTING, and from then on no request and no byte is taken. The effect waits for the port's replies to be
sent; then the part is as power-up leaves it, but for what RESTART keeps: the restarting port's role, the takeover flag, the
port counters, the line rate, the bank counters, and the pool's content. That an empty reply queue stands for the last byte
sent is the model's choice (log 17). -/
def Obligations.RestartTakesTwoSteps : Prop :=
  ∀ (s : State) (p : Port),
    (∀ r, Asks s p r 0x03 [] →
      let t := served s p r (fun u => { u with link := { u.link with
        restartPending := some p
        ports := { a := { u.link.ports.a with rx := .hunting }, b := { u.link.ports.b with rx := .hunting } } } }) .ok []
      exec .restart s = .next t ∧ t.nextRequest = none ∧ ∀ q b e, exec (.receiveByte q b e) t = .next t) ∧
    (s.link.restartPending = none → exec .restartEffect s = .next s) ∧
    (s.link.restartPending = some p → (s.link.ports.get p).replies ≠ [] → exec .restartEffect s = .next s) ∧
    (s.link.restartPending = some p → (s.link.ports.get p).replies = [] →
      let kept (q : PortState) : PortState := { PortState.reset with
        gapError := q.gapError, crcError := q.crcError, frameError := q.frameError, overflowDiscard := q.overflowDiscard }
      exec .restartEffect s = .next { State.reset with
        pending := s.pending
        store := { State.reset.store with
          errs := s.store.errs
          banks := s.store.banks.map fun b => { b with arm := none } }
        link := { State.reset.link with
          controller := p
          takeoverAllowed := s.link.takeoverAllowed
          lineRate := s.link.lineRate
          ports := { a := kept s.link.ports.a, b := kept s.link.ports.b } } })

/-- POWER_UP and RESETN leave the part in the reset state, with the line rate by the RATESEL strap and the pool's memory
unwritten (R17, R42, R163, R164, R178), and the reset state is this (R17, R29, R42, R89, R163, R172, R176, R178): every lane
OFF with its counters at 0, every page free in ascending order, budgets, in-use counts and bank counters 0, arms clear, the
Tick Generator FREE, the panel unbound and unlocked with every output off, both receivers HUNTING, queues and pending sets
empty, port A CONTROLLER, B last served, takeover allowed, every kind enabled and the first five of the thirteen HIGH. -/
def Obligations.ResetStateIsTheManuals : Prop :=
  (∀ (s : State) (ratesel : Bool),
    let t := { State.reset with
      pending := s.pending
      store := { State.reset.store with errs := s.store.errs }
      link := { State.reset.link with lineRate := if ratesel then .baud115200 else .baud38400 } }
    exec (.powerUp ratesel) s = .next t ∧ exec (.resetN ratesel) s = .next t) ∧
  let s := State.reset
  (∀ l, s.body? l = none ∧ (s.lanes.get l).counters.bytes = List.replicate 20 0 ∧ s.store.budget.get l = 0 ∧
    s.store.inUse.get l = 0) ∧
  freeList s.store.free = List.range 65536 ∧
  (∀ k, s.store.banks.get k = { correctedData := 0, correctedCheck := 0, uncorrectable := 0, arm := none }) ∧
  s.tick.locked = none ∧ s.panel.lockout = false ∧ s.panel.fired = [] ∧
  (∀ i, s.panel.inputs.get i =
      { func := .unbound, mask := 0, inverted := false, length := 1, level := false, count := 0 } ∧
    s.panel.outputs.get i =
      { func := .unbound, lane := none, inverted := false, manual := false, forceEnable := false, forceValue := false } ∧
    s.outLevel i = false) ∧
  (∀ p, (s.link.ports.get p).rx = .hunting ∧ (s.link.ports.get p).inbound = [] ∧ (s.link.ports.get p).replies = [] ∧
    (s.link.ports.get p).overflowSeen = false ∧ (s.link.ports.get p).notices = [] ∧
    (s.link.ports.get p).counterBytes = List.replicate 8 0 ∧
    ∀ k : Fin 13, (s.link.ports.get p).kinds.get k = { enabled := true, high := decide (k.val < 5) }) ∧
  s.link.controller = .a ∧ s.link.lastServed = .b ∧ s.link.takeoverAllowed = true ∧ s.link.restartPending = none

/-- The Tick Generator (R89): the second of two pulses one frame interval of a rate apart locks it, with REFERENCE BACK; a
pulse in step keeps it locked; a pulse out of step, or an expected one that does not arrive, frees it, with REFERENCE LOST.
No lane, line, counter or setting changes. That an out of step pulse is the first of a new pair is the model's choice
(log 23), and so is that an expected pulse missed in FREE changes nothing (log 2). -/
def Obligations.ReferenceLocksAndFrees : Prop :=
  ∀ (s : State),
    (∀ r, s.tick.locked = some r →
      exec (.referencePulse (some r)) s = .next s ∧
      (∀ i, i ≠ some r → exec (.referencePulse i) s =
        .next (({ s with tick := { locked := none, pulseSeen := true } } : State).post none (.reference false))) ∧
      exec .referenceLost s =
        .next (({ s with tick := { s.tick with locked := none } } : State).post none (.reference false))) ∧
    (s.tick.locked = none →
      exec .referenceLost s = .next s ∧
      exec (.referencePulse none) s = .next { s with tick := { locked := none, pulseSeen := true } } ∧
      (∀ i, s.tick.pulseSeen = false →
        exec (.referencePulse i) s = .next { s with tick := { locked := none, pulseSeen := true } }) ∧
      ∀ r, s.tick.pulseSeen = true → exec (.referencePulse (some r)) s =
        .next (({ s with tick := { locked := some r, pulseSeen := true } } : State).post none (.reference true)))

/-! ### The Frame Store -/

/-- The free page list is first in, first out (R29, R31, R32, R33): an allocation of n pages takes them from the head, in
order, and fails only when fewer are free; pages given back join the tail in order. The lane's in-use count follows, and
nothing else of the store changes. -/
def Obligations.FreeListIsFirstInFirstOut : Prop :=
  ∀ (st : Store) (l : Lane) (n : Nat) (pages : List PageNo),
    (n ≤ (freeList st.free).length → ∃ st', st.allocate l n = some ((freeList st.free).take n, st') ∧
      freeList st'.free = (freeList st.free).drop n ∧
      st' = { st with free := st'.free, inUse := st.inUse.set l (st.inUse.get l + n) }) ∧
    ((freeList st.free).length < n → st.allocate l n = none) ∧
    freeList (st.giveBack l pages).free = freeList st.free ++ pages ∧
    st.giveBack l pages = { st with
      free := (st.giveBack l pages).free, inUse := st.inUse.set l (st.inUse.get l - pages.length) }

/-- STORE_STATUS, STORE_CLEAR_COUNTS and STORE_INJECT (R38, R39, R41, R182): the pool and bank views show the store as it
stands; the clear sets all 24 counters to 0 and keeps the arms; an injection sets a clear arm, and is refused BUSY on a set
one. -/
def Obligations.StoreMessagesReportAndSet : Prop :=
  ∀ (s : State) (p : Port) (r : Request),
    let lanes (v : PerLane Nat) : List Byte := be24 v.l1 ++ be24 v.l2 ++ be24 v.l3 ++ be24 v.l4
    let bank (k : Fin 8) : Bank := s.store.banks.get k
    (AsksEither s p r 0x07 [0] → exec .storeStatus s = .next (served s p r id .ok
      (0 :: (be24 (freeList s.store.free).length ++ lanes s.store.budget ++ lanes s.store.inUse ++
        (List.finRange 8).map fun k => armByte (bank k).arm)))) ∧
    (AsksEither s p r 0x07 [1] → exec .storeStatus s = .next (served s p r id .ok
      (1 :: (List.finRange 8).flatMap fun k =>
        be16 (bank k).correctedData ++ be16 (bank k).correctedCheck ++ be16 (bank k).uncorrectable))) ∧
    (∀ v, 2 ≤ v.toNat → AsksEither s p r 0x07 [v] → exec .storeStatus s = .next (served s p r id .badArgument [])) ∧
    (Asks s p r 0x08 [] → ∃ banks : Vector Bank 8,
      exec .storeClearCounts s = .next (served s p r (fun u => { u with store := { u.store with banks := banks } }) .ok []) ∧
      ∀ k, banks.get k = { correctedData := 0, correctedCheck := 0, uncorrectable := 0, arm := (bank k).arm }) ∧
    ∀ (k : Fin 8) (size : ErrSize) (field : ErrField),
      let body : List Byte := [BitVec.ofNat 8 k.val, errSizeByte size, errFieldByte field]
      Asks s p r 0x09 body →
        ((bank k).arm = none → exec .storeInject s = .next (served s p r
          (fun u => { u with store := u.store.setBank k { bank k with arm := some { size := size, field := field } } })
          .ok body)) ∧
        ((bank k).arm ≠ none → exec .storeInject s = .next (served s p r id .busy []))

/-- A page's completed write, and PAGE_WRITE_COMPLETE (R35, R40): every word of the page is stored without error, but for word
0 where the page's bank is armed, which takes the armed error while the arm becomes clear; every other word, bank and figure
stays. The command completes the next video page of a lane's in-arrival frame, in raster order, when the frame carries a
raster of the lane's class; where no page is being written nothing changes, which is the model's choice (log 2). -/
def Obligations.PageWriteConsumesTheArm : Prop :=
  (∀ (st : Store) (p : PageNo), st.wf = true →
    (∀ a, a / 32768 ≠ p → errAt (st.writePage p) a = errAt st a) ∧
    (∀ a, a / 32768 = p → errAt (st.writePage p) a = if a = p * 32768 then (st.banks.get (Fin.ofNat 8 p)).arm else none) ∧
    (∀ k, (st.writePage p).banks.get k =
      if k = Fin.ofNat 8 p then { st.banks.get k with arm := none } else st.banks.get k) ∧
    st.writePage p = { st with banks := (st.writePage p).banks, errs := (st.writePage p).errs }) ∧
  ∀ (s : State) (l : Lane),
    (∀ b f p, s.body? l = some b → b.intake.arrival = some f → rasterMatches b.fmt.vclass f.raster = true →
      (videoPages b.fmt.vclass f.pages)[f.written]? = some p →
      exec (.pageWriteComplete l) s = .next (({ s with store := s.store.writePage p } : State).setBody l
        (some { b with intake.arrival := some { f with written := f.written + 1 } }))) ∧
    ((s.body? l).bind LaneBody.nextVideoPage = none → exec (.pageWriteComplete l) s = .next s)

/-- Reading a page (R36, R37, R38): each of its words in error is counted once in its bank's counter, and each uncorrectable
one posts STORE_ERROR for the unit with the bank; nothing is corrected in the store, and nothing else changes. The page
reads uncorrectable exactly when a double error stands in it. -/
def Obligations.PageReadsCountTheirErrors : Prop :=
  ∀ (s : State) (p : PageNo),
    let here := (s.store.errs.filter fun e => e.1 / 32768 == p).map (·.2)
    let k := Fin.ofNat 8 p
    let n (e : WordErr → Bool) : Nat := (here.filter e).length
    let raise (x d : Nat) : Nat := max x (min 65535 (x + d))
    let b := s.store.banks.get k
    let t := s.readPage p
    (∀ j, t.store.banks.get j = if j = k then
      { correctedData := raise b.correctedData (n fun e => e.size == .single && e.field == .data)
        correctedCheck := raise b.correctedCheck (n fun e => e.size == .single && e.field == .check)
        uncorrectable := raise b.uncorrectable (n fun e => e.size == .double), arm := b.arm }
      else s.store.banks.get j) ∧
    t.link = ((List.replicate (n fun e => e.size == .double) ()).foldl (fun u _ => u.post none (.storeError k)) s).link ∧
    t = { s with store := { s.store with banks := t.store.banks }, link := t.link } ∧
    (s.store.pageBad p = true ↔ ∃ e ∈ here, e.size = .double)

/-! ### Invariants that every command keeps -/

/-- Every command keeps every page in exactly one place, and each lane's in-use count exact (R28, R31). -/
def Obligations.PagesStayOwnedOnce : Prop :=
  ∀ (c : Instr) (s t : State), PagesOwned s → exec c s = .next t → PagesOwned t

/-- Every command keeps each lane within its budget and the budgets within the pool (R2, R30, R31, R68). -/
def Obligations.LanesStayWithinBudget : Prop :=
  ∀ (c : Instr) (s t : State), BudgetsKept s → exec c s = .next t → BudgetsKept t

/-- No command faults on a machine whose pages and budgets are in order: allocation never fails (R31, R32). -/
def Obligations.AllocationNeverFails : Prop :=
  ∀ (c : Instr) (s : State), PagesOwned s → BudgetsKept s → ∀ f : Fault, exec c s ≠ .fault f

/-- Every command keeps the error map's canonical form, so that equal contents are equal data (R36, R40). The map and its form
are the model's choice (log 7). -/
def Obligations.ErrorMapStaysCanonical : Prop :=
  ∀ (c : Instr) (s t : State), s.store.wf = true → exec c s = .next t → t.store.wf = true

/-- Every command keeps the bounds of every configured lane's counts and settings (R18, R20, R53, R80, R100, R105, R107,
R115, R121, R122); the carry store's copies, a record's being its carried prefix and then its CARRY packets, and the in-arrival
frame's its CARRY packets (R70); and every lane counter and bank counter at 65,535 or below (R5, R38). -/
def Obligations.LaneBoundsAreKept : Prop :=
  ∀ (c : Instr) (s t : State), LanesBounded s → exec c s = .next t → LanesBounded t

/-- Every command keeps the order of each lane's line and the place of its mark (R45, R71, R73, R74): the seqs of the held
records and then of the in-arrival frame are distinct and rise towards the next-seq; a PENDING mark names the next-seq while no
frame is arriving, an ARRIVING mark the in-arrival frame, and a HELD mark a held record. It holds within the span in which the
next-seq does not come round to a seq that is still in the lane. -/
def Obligations.LineOrderAndMarkAreKept : Prop :=
  ∀ (c : Instr) (s t : State), SeqsKept s → SeqsSpan s → exec c s = .next t → SeqsKept t

/-- Every command keeps the link relation: a follower stays in its leader's state but for a drain it still owes, covers while
its leader does, and owes at most 8 actions; an independent lane has no discard-through value and no LEADER source, and
delays only with a target (R9, R23, R25, R26, R61, R124, R146, R147). -/
def Obligations.LinkRelationIsKept : Prop :=
  ∀ (c : Instr) (s t : State), LinksKept s → exec c s = .next t → LinksKept t

/-- Every command keeps the panel: a group is FIRED exactly while a member's filtered level is active, each filter count is
below its filter length, and lockout holds every line inactive (R152, R154, R157, R158). -/
def Obligations.PanelStaysConsistent : Prop :=
  ∀ (c : Instr) (s t : State), PanelKept s → exec c s = .next t → PanelKept t

/-- Every command keeps the ports: queues of at most 4, one pending entry for each kind and lane, in order, of kinds that the
port keeps, counters that stop at 65,535, and both receivers HUNTING while restart is pending (R165, R167 to R169, R174,
R175, R176). -/
def Obligations.PortsStayBounded : Prop :=
  ∀ (c : Instr) (s t : State), PortsKept s → exec c s = .next t → PortsKept t

/-- The part right after reset meets every one of those invariants. -/
def Obligations.ResetMeetsTheInvariants : Prop :=
  PagesOwned State.reset ∧ BudgetsKept State.reset ∧ State.reset.store.wf = true ∧ LanesBounded State.reset ∧
  SeqsKept State.reset ∧ LinksKept State.reset ∧ PanelKept State.reset ∧ PortsKept State.reset

/-! ### Lanes: configure, settings, link -/

/-- Times and frames (R19, R21): a time converts to the nearest frame and frames to the nearest millisecond, a half going up,
in whole-number arithmetic on the rate num/den of the table in 1.1. -/
def Obligations.ConversionsRoundToNearest : Prop :=
  (∀ r : Fin 8, (rateNum r, rateDen r) = ([(24000, 1001), (24, 1), (25, 1), (30000, 1001), (30, 1), (50, 1), (60000, 1001),
    (60, 1)] : List (Nat × Nat)).getD r.val (0, 0)) ∧
  ∀ (r : Fin 8) (n : Nat),
    let num := rateNum r
    let den := rateDen r
    (2 * den * 1000 * toFrames r n ≤ 2 * n * num + den * 1000 ∧
      2 * n * num + den * 1000 < 2 * den * 1000 * (toFrames r n + 1)) ∧
    (2 * num * toMs r n ≤ 2 * n * den * 1000 + num ∧ 2 * n * den * 1000 + num < 2 * num * (toMs r n + 1))

/-- LANE_CONFIGURE on an OFF lane (R1 to R3, R5, R54, R57, R103, R123, R132): the budget is raised to 6 ppf, refused NO_PAGES
where the other lanes' budgets leave too little, and otherwise the lane starts in PASS, empty, with every default. -/
def Obligations.ConfigureFromOffStartsTheLane : Prop :=
  ∀ (s : State) (p : Port) (r : Request) (l : Lane) (rate : Fin 8) (c : VideoClass) (ch : ChannelCount) (b2 b1 b0 : Byte)
    (force : Bool),
    Asks s p r 0x20 [laneByte (some l), BitVec.ofNat 8 rate.val, classByte c, BitVec.ofNat 8 ch.toNat, b2, b1, b0,
      boolByte force] →
    s.body? l = none →
    let asked := b2.toNat * 65536 + b1.toNat * 256 + b0.toNat
    let ppf := pagesPerFrame c
    let budget := max asked (6 * ppf)
    let m := min 4096 (budget / ppf - 2)
    let elsewhere := ((allLanes.filter (· != l)).map s.store.budget.get).sum
    let body : LaneBody :=
      { fmt := { rate := rate, vclass := c, channels := ch }, maxH := m, mode := .pass, link := none
        timing := { target := none, dump := { ms := 0, frames := 0 }, lead := { ms := 0, frames := 0 } }
        govSet := { threshold := 2654, mask := 3, q := 6, s := 12, f := 0, e := 3 }
        gov := { engaged := false, since := 0, inserts := 0, skips := 0, dev := 0, ticked := false }
        splice := { enabled := false, type := 0 }
        intake := { arrival := none, nextSeq := 0, discardThrough := none, ticksSince := 0, owed := 0, loss := false, routes := [], defaultClass := .delay, watch := [] }
        dl := { records := [], mark := none, sources := .empty, carried := [], departing := [] }
        play := { phase := 0, hold := none, lastBlock := none, prevLevel := 0, fillRun := false, tonePhase := 0, quietRun := 0, depth := 0, output := none, fill := { kind := .silence, amplitude := 0, mask := 0xFFFF } } }
    exec .laneConfigure s = .next (
      if budget + elsewhere ≤ 65536 then
        served s p r (fun u => { u with
            lanes := u.lanes.set l { counters := .zero, body := some body }
            store := { u.store with budget := u.store.budget.set l budget }
            link := (u.post (some l) (.laneState (some .pass) .message)).link })
          (if asked < 6 * ppf then .clamped else .ok) (be24 budget ++ be16 m)
      else served s p r id .noPages [])

/-- LANE_CONFIGURE on a configured lane (R3, R6, R8, R22, R67, R87, R110, R130): LINKED in either role, LANE_ACTIVE while
delaying without force, NO_PAGES, or flushed and restarted in PASS with its pages freed in order, its timing settings
recomputed from their milliseconds, and its next-seq, counters, loss flag and other settings kept. -/
def Obligations.ReconfigureFlushesTheLane : Prop :=
  ∀ (s : State) (p : Port) (r : Request) (l : Lane) (rate : Fin 8) (c : VideoClass) (ch : ChannelCount) (b2 b1 b0 : Byte)
    (force : Bool) (b : LaneBody),
    Asks s p r 0x20 [laneByte (some l), BitVec.ofNat 8 rate.val, classByte c, BitVec.ofNat 8 ch.toNat, b2, b1, b0,
      boolByte force] →
    s.body? l = some b →
    let asked := b2.toNat * 65536 + b1.toNat * 256 + b0.toNat
    let ppf := pagesPerFrame c
    let budget := max asked (6 * ppf)
    let m := min 4096 (budget / ppf - 2)
    let elsewhere := ((allLanes.filter (· != l)).map s.store.budget.get).sum
    let target (t : Setting) : Setting := { t with frames := min (max (toFrames rate t.ms) 2) (m - 2) }
    let dump := if b.timing.dump.ms = 0 then 0 else min (max (toFrames rate b.timing.dump.ms) 1) m
    let lead := min (toFrames rate b.timing.lead.ms) m
    let clamped := asked < 6 * ppf ∨ (b.timing.target.any fun t => (target t).frames != toFrames rate t.ms) = true ∨
      (b.timing.dump.ms ≠ 0 ∧ dump ≠ toFrames rate b.timing.dump.ms) ∨ lead ≠ toFrames rate b.timing.lead.ms
    let pages := (b.intake.arrival.map (·.pages)).getD [] ++ b.dl.records.flatMap (·.pages) ++
      (b.play.hold.map (·.pages)).getD []
    let fresh : LaneBody := { b with
      fmt := { rate := rate, vclass := c, channels := ch }
      maxH := m
      mode := .pass
      timing := { target := b.timing.target.map target, dump := { ms := b.timing.dump.ms, frames := dump }, lead := { ms := b.timing.lead.ms, frames := lead } }
      gov := { engaged := false, since := 0, inserts := 0, skips := 0, dev := 0, ticked := false }
      intake := { b.intake with arrival := none, discardThrough := none, ticksSince := 0, owed := 0 }
      dl := { records := [], mark := none, sources := .empty, carried := [], departing := [] }
      play := { phase := 0, hold := none, lastBlock := none, prevLevel := 0, fillRun := false, tonePhase := 0, quietRun := 0, depth := 0, output := none, fill := b.play.fill } }
    exec .laneConfigure s = .next (
      if b.link ≠ none ∨ s.followersOf l ≠ [] then served s p r id .linked []
      else if b.mode ≠ .pass ∧ force = false then served s p r id .laneActive []
      else if 65536 < budget + elsewhere then served s p r id .noPages []
      else served s p r (fun u => (((u.setBody l (some fresh)).freePages l pages).setBudget l budget).post (some l)
          (.laneState (some .pass) .restarted))
        (if clamped then .clamped else .ok) (be24 budget ++ be16 m))

/-- LANE_RELEASE (R14, R26, R31, R87): each follower is made independent, in ascending lane order, the lane's pages are freed
in order, its budget returns and it is OFF; its counters and the other lanes stay. On an OFF lane it changes nothing. That a
release of a follower posts nothing for the link is the model's reading (log 25). -/
def Obligations.ReleaseTakesTheLaneOff : Prop :=
  ∀ (s : State) (p : Port) (r : Request) (l : Lane), Asks s p r 0x21 [laneByte (some l)] →
    (s.body? l = none → exec .laneRelease s = .next (served s p r id .ok [])) ∧
    ∀ b, s.body? l = some b → ∃ u : State,
      exec .laneRelease s = .next (u.reply p r { result := .ok, body := [] }) ∧
      u.body? l = none ∧
      (∀ k, k ≠ l → u.body? k = if k ∈ s.followersOf l then (s.body? k).map independent else s.body? k) ∧
      (∀ k, (u.lanes.get k).counters = (s.lanes.get k).counters) ∧
      freeList u.store.free = freeList s.store.free ++ b.pages ∧
      u.store = { s.store with
        free := u.store.free, budget := s.store.budget.set l 0
        inUse := s.store.inUse.set l (s.store.inUse.get l - b.pages.length) } ∧
      u.pending = s.pending ∧ u.tick = s.tick ∧ u.panel = s.panel ∧
      u.link = ((((s.followersOf l).flatMap fun k => ((s.body? k).map (unlinkedPosts k)).getD []) ++
        [(some l, Detail.laneState none .message)]).foldl (fun v x => v.post x.1 x.2) (s.takeRequest p)).link

/-- LANE_LINK and LANE_UNLINK (R4, R23, R24, R26, R147): with every condition met the follower takes the offset of the
next-seqs modulo 2^32, a count of 0, no discard-through value, and LEADER where the leader's set is not empty; otherwise
LINK_REFUSED, and NOT_DELAYING where a lane named is OFF (log 14). An unlinked follower becomes independent; a lane that is
none is left as it is; an OFF lane refuses. -/
def Obligations.LinkAndUnlinkJoinAndPartLanes : Prop :=
  (∀ (s : State) (p : Port) (r : Request) (f l : Lane), Asks s p r 0x2E [laneByte (some f), laneByte (some l)] →
    (s.body? f = none ∨ s.body? l = none → exec .laneLink s = .next (served s p r id .notDelaying [])) ∧
    ∀ fb lb, s.body? f = some fb → s.body? l = some lb →
      let off := lb.intake.nextSeq - fb.intake.nextSeq
      let linked : LaneBody := { fb with
        link := some { leader := l, off := off, pending := 0, leaderMoved := false }
        intake := { fb.intake with discardThrough := none } }
      exec .laneLink s = .next (
        if f ≠ l ∧ fb.mode = .pass ∧ lb.mode = .pass ∧ fb.fmt.rate = lb.fmt.rate ∧ lb.link = none ∧ fb.link = none ∧
            s.followersOf f = [] then
          served s p r (fun u => u.setBody f (some (if lb.dl.sources = .empty then linked else linked.cover .leader)))
            .ok (be32 off.toNat)
        else served s p r id .linkRefused [])) ∧
  ∀ (s : State) (p : Port) (r : Request) (l : Lane), Asks s p r 0x2F [laneByte (some l)] →
    (s.body? l = none → exec .laneUnlink s = .next (served s p r id .notDelaying [])) ∧
    ∀ b, s.body? l = some b →
      exec .laneUnlink s = .next (
        if b.link = none then served s p r id .ok []
        else served s p r (fun u => (unlinkedPosts l b).foldl (fun v x => v.post x.1 x.2)
          (u.setBody l (some (independent b)))) .ok [])

/-- LANE_TIMING (R18 to R20): each time is lowered to 60,000 ms, converted, and clamped into the setting's range; a target of
0 leaves the target; a dump size of 0 ms is the whole line. The reply gives the frames applied and their time. -/
def Obligations.TimingIsConvertedAndClamped : Prop :=
  ∀ (s : State) (p : Port) (r : Request) (l : Lane) (t1 t0 d1 d0 c1 c0 : Byte) (b : LaneBody),
    Asks s p r 0x22 [laneByte (some l), t1, t0, d1, d0, c1, c0] → s.body? l = some b → b.link = none →
    let rate := b.fmt.rate
    let given (h x : Byte) : Nat := h.toNat * 256 + x.toNat
    let cap (ms : Nat) : Nat := min ms 60000
    let target := given t1 t0
    let dump := given d1 d0
    let lead := given c1 c0
    let targetFrames := min (max (toFrames rate (cap target)) 2) (b.maxH - 2)
    let dumpFrames := if dump = 0 then 0 else min (max (toFrames rate (cap dump)) 1) b.maxH
    let leadFrames := min (toFrames rate (cap lead)) b.maxH
    let timing : Timing :=
      { target := if target = 0 then b.timing.target else some { ms := cap target, frames := targetFrames }
        dump := { ms := cap dump, frames := dumpFrames }
        lead := { ms := cap lead, frames := leadFrames } }
    let clamped := 60000 < target ∨ 60000 < dump ∨ 60000 < lead ∨
      (target ≠ 0 ∧ targetFrames ≠ toFrames rate (cap target)) ∨ (dump ≠ 0 ∧ dumpFrames ≠ toFrames rate (cap dump)) ∨
      leadFrames ≠ toFrames rate (cap lead)
    let shown (frames : Nat) : List Byte := be16 frames ++ be16 (toMs rate frames)
    exec .laneTiming s = .next (served s p r (fun u => u.setBody l (some { b with timing := timing }))
      (if clamped then .clamped else .ok)
      (shown ((timing.target.map (·.frames)).getD 0) ++ shown dumpFrames ++ shown leadFrames))

/-- LANE_GOVERNOR, LANE_COVER_FILL, LANE_SPLICE, LANE_ROUTES and LANE_WATCH (R56, R59, R103, R122, R133): the settings are
replaced together, out of range values brought into range and the reply then CLAMPED; up to 8 route entries with the
default class, and up to 4 watch entries, replace what the lane had; a route entry whose low type exceeds its high type is
refused BAD_ARGUMENT with nothing applied, and so is a watch entry with a match length above 4. Nothing else changes. -/
def Obligations.SettingMessagesReplaceTheirSettings : Prop :=
  (∀ (s : State) (p : Port) (r : Request) (l : Lane) (b : LaneBody), s.body? l = some b →
    (∀ t2 t1 t0 m1 m0 q sp f1 f0 e : Byte, Asks s p r 0x23 [laneByte (some l), t2, t1, t0, m1, m0, q, sp, f1, f0, e] →
      let threshold := t2.toNat * 65536 + t1.toNat * 256 + t0.toNat
      let force := f1.toNat * 256 + f0.toNat
      let spacing := max 1 (min sp.toNat 250)
      let g : GovSettings :=
        { threshold := min threshold 8388607, mask := m1 ++ m0, q := max 1 (min q.toNat 60), s := spacing
          f := if force = 0 then 0 else min (max force spacing) 6000, e := max 1 (min e.toNat 250) }
      let same := g.threshold = threshold ∧ g.q = q.toNat ∧ g.s = sp.toNat ∧ g.f = force ∧ g.e = e.toNat
      exec .laneGovernor s = .next (served s p r (fun u => u.setBody l (some { b with govSet := g }))
        (if same then .ok else .clamped)
        (be24 g.threshold ++ [m1, m0, BitVec.ofNat 8 g.q, BitVec.ofNat 8 g.s] ++ be16 g.f ++ [BitVec.ofNat 8 g.e]))) ∧
    (∀ (kind : FillKind) (a2 a1 a0 m1 m0 : Byte), Asks s p r 0x26 [laneByte (some l), fillKindByte kind, a2, a1, a0, m1, m0] →
      let asked := a2.toNat * 65536 + a1.toNat * 256 + a0.toNat
      let fill : CoverFill := { kind := kind, amplitude := min asked 8388607, mask := m1 ++ m0 }
      exec .laneCoverFill s = .next (served s p r
        (fun u => u.setBody l (some { b with play := { b.play with fill := fill } }))
        (if asked ≤ 8388607 then .ok else .clamped) (fillKindByte kind :: be24 fill.amplitude ++ [m1, m0]))) ∧
    ∀ (on : Bool) (t1 t0 : Byte), Asks s p r 0x27 [laneByte (some l), boolByte on, t1, t0] →
      exec .laneSplice s = .next (served s p r
        (fun u => u.setBody l (some { b with splice := { enabled := on, type := t1 ++ t0 } })) .ok [boolByte on, t1, t0])) ∧
  ∀ (s : State) (p : Port) (r : Request) (l : Lane) (b : LaneBody), s.body? l = some b →
    (∀ (dflt : PacketClass) (es : List RouteEntry), es.length ≤ 8 →
      Asks s p r 0x24 (laneByte (some l) :: (routeBytes { low := 0, high := 0, cls := dflt }).drop 4 ++ es.flatMap routeBytes) →
      exec .laneRoutes s = .next (
        if ∃ e ∈ es, e.high.toNat < e.low.toNat then served s p r id .badArgument []
        else served s p r
          (fun u => u.setBody l (some { b with intake := { b.intake with routes := es, defaultClass := dflt } })) .ok [])) ∧
    (∀ w : List Byte, Asks s p r 0x25 (laneByte (some l) :: w) → listedLength 0x25 (w.length + 1) = true →
      argumentsOk r = true → (∃ k, k < w.length / 8 ∧ 4 < (w.getD (8 * k + 2) 0).toNat) →
      exec .laneWatch s = .next (served s p r id .badArgument [])) ∧
    ∀ es : List WatchEntry, es.length ≤ 4 → (∀ e ∈ es, e.bytes.length ≤ 4) →
      Asks s p r 0x25 (laneByte (some l) :: es.flatMap watchBytes) →
      exec .laneWatch s = .next (served s p r
        (fun u => u.setBody l (some { b with intake := { b.intake with watch := es } })) .ok [])

/-- The messages that a follower refuses LINKED, and an OFF lane NOT_DELAYING (R4, R6, R27): ENTER, EXIT, DUMP, MARK,
CUT_TO_MARK, COVER and TIMING. Nothing but the queues changes. -/
def Obligations.FollowersAndOffLanesRefuseCommands : Prop :=
  ∀ (s : State) (p : Port) (r : Request) (l : Lane) (x : Bool) (rest : List Byte),
    r.code ∈ ([0x22, 0x28, 0x29, 0x2A, 0x2B, 0x2C, 0x2D] : List Byte) →
    rest = (if r.code = 0x29 ∨ r.code = 0x2D then [boolByte x] else rest) → listedLength r.code (rest.length + 1) = true →
    Asks s p r r.code (laneByte (some l) :: rest) →
    (s.body? l = none → exec (rowOf r) s = .next (served s p r id .notDelaying [])) ∧
    ((s.leaderOf? l).isSome = true → exec (rowOf r) s = .next (served s p r id .linked []))

/-! ### Lane states, marks and covers -/

/-- A lane's change of state (R15, R25, R128): the lane takes the state and each follower takes it with cause LEADER, one
LANE_STATE each; a lane entering PASS as a follower has its governor's account cleared; a follower that still owes actions
stays in DRAIN when its leader goes from DRAIN to PASS. Nothing else changes. -/
def Obligations.StateChangesReachFollowers : Prop :=
  ∀ (s : State) (l : Lane) (b : LaneBody) (m : Mode) (cause : Cause), s.body? l = some b → b.link = none →
    let stays (fb : LaneBody) : Bool :=
      b.mode == .drain && m == .pass && ((fb.link.map (·.pending)).getD 0) != 0
    let moved (fb : LaneBody) : LaneBody :=
      if stays fb then fb
      else if m = .pass then
        { fb with mode := m, gov := { fb.gov with engaged := false, since := 0, inserts := 0, skips := 0 } }
      else { fb with mode := m }
    let t := s.changeMode l m cause
    t.body? l = some { b with mode := m } ∧
    (∀ k, k ≠ l → t.body? k = if k ∈ s.followersOf l then (s.body? k).map moved else s.body? k) ∧
    (∀ k, (t.lanes.get k).counters = (s.lanes.get k).counters) ∧
    t = { s with lanes := t.lanes, link := t.link } ∧
    t.link = (s.postAll ((some l, .laneState (some m) cause) ::
      ((s.followersOf l).filter fun f => !(s.body? f).any stays).map fun f =>
        (some f, .laneState (some m) .leader))).link

/-- LANE_ENTER, the GENTLE form of LANE_EXIT, and LANE_MARK on a lane that is no follower (R9, R11, R73, R185): what each does
in each state, with the target set or unset, and with a frame arriving or none. -/
def Obligations.EnterExitAndMarkActOnTheLane : Prop :=
  ∀ (s : State) (p : Port) (r : Request) (l : Lane) (b : LaneBody), s.body? l = some b → b.link = none →
    (Asks s p r 0x28 [laneByte (some l)] →
      let dev (t : Setting) : Int := (t.frames : Int) - b.play.depth
      let engaged (on : Bool) (g : GovState) : GovState := if on then { g with engaged := true, since := 0 } else { g with engaged := false }
      exec .laneEnter s = .next (
        match b.mode, b.timing.target with
        | .pass, none | .drain, none => served s p r id .noTarget []
        | .pass, some _ => served s p r
            (fun u => (u.setBody l (some { b with gov := engaged true b.gov })).changeMode l .build .message) .ok []
        | .drain, some t =>
          if dev t = 0 then served s p r
            (fun u => (u.setBody l (some { b with gov := engaged false b.gov })).changeMode l .onTarget .message) .ok []
          else served s p r (fun u => u.changeMode l (if 0 < dev t then .build else .trim) .message) .ok []
        | _, _ => served s p r id .ok [])) ∧
    (Asks s p r 0x29 [laneByte (some l), 0] →
      let report : List Byte := [0, 0, 0] ++ be16 b.h
      exec .laneExitGentle s = .next (
        match b.mode with
        | .pass => served s p r id .notDelaying []
        | .drain => served s p r id .ok report
        | _ => served s p r (fun u =>
            (u.setBody l (some (if b.gov.engaged then b
              else { b with gov := { b.gov with engaged := true, since := 0 } }))).changeMode l .drain .message)
            .ok report)) ∧
    (Asks s p r 0x2B [laneByte (some l)] →
      let mark : Mark := match b.intake.arrival with
        | some f => { seq := f.seq, standing := .arriving }
        | none => { seq := b.intake.nextSeq, standing := .pending }
      exec .laneMark s = .next (served s p r
        (fun u => u.setBody l (some { b with dl := { b.dl with mark := some mark } })) .ok
        (be32 mark.seq.toNat ++ [if b.intake.arrival.isSome then 2 else 1])))

/-- A cover source added to or removed from a lane that is no follower, by any of its origins (R76 to R78, R146): a set that
was empty makes an onset, and LEADER is added to each follower, with an onset where the follower's set was empty; a set that
becomes empty takes LEADER from each follower and leaves every flag as it is. LANE_COVER does this with CONTROL, and answers
with the set (R144). -/
def Obligations.CoversFlagFramesAndReachFollowers : Prop :=
  ∀ (s : State) (l : Lane) (b : LaneBody), s.body? l = some b → b.link = none →
    (∀ src : CoverSource,
      let t := s.addSource l src
      let u := s.removeSource l src
      (t.body? l = some (coveredBy src b) ∧
        (∀ k, k ≠ l → t.body? k = if k ∈ s.followersOf l ∧ b.dl.sources = .empty then
          (s.body? k).map (coveredBy .leader) else s.body? k) ∧
        (∀ k, (t.lanes.get k).counters = (s.lanes.get k).counters) ∧ t = { s with lanes := t.lanes }) ∧
      (u.body? l = some (uncoveredBy src b) ∧
        (∀ k, k ≠ l → u.body? k =
          if k ∈ s.followersOf l ∧ b.dl.sources ≠ .empty ∧ (uncoveredBy src b).dl.sources = .empty then
            (s.body? k).map (uncoveredBy .leader) else s.body? k) ∧
        (∀ k, (u.lanes.get k).counters = (s.lanes.get k).counters) ∧ u = { s with lanes := u.lanes })) ∧
    ∀ (p : Port) (r : Request) (on : Bool), Asks s p r 0x2D [laneByte (some l), boolByte on] →
      let c := b.dl.sources
      let bit (n : Nat) (x : Bool) : Nat := if x then n else 0
      exec (if on then .laneCoverOn else .laneCoverOff) s = .next (served s p r
        (fun u => if on then u.addSource l .control else u.removeSource l .control) .ok
        [BitVec.ofNat 8 (bit 1 on + bit 2 c.panel + bit 4 c.watch + bit 8 c.leader)])

/-! ### Cuts -/

/-- What every cut does to its lane (R131, R132, R134, R186): the removed records leave the line; their carried prefixes and
CARRY packets join the carried-packet list's tail, then the splice packet when the setting is enabled and a frame was
removed; what finds no room is dropped and counted; their pages are freed in order; a mark HELD on one becomes GONE,
REMOVED; a frame in arrival that the cut removes is marked for discard; DUMP_DONE is posted. Nothing else changes. One
CARRY_LOST notice for a cut that drops packets is the model's reading (log 12). -/
def Obligations.CutsRemoveWhatTheyName : Prop :=
  ∀ (s : State) (l : Lane) (b : LaneBody) (kind : CutKind) (kept removed : List Record) (takeArrival mapped : Bool),
    let arrival := takeArrival && b.intake.arrival.any fun f => !f.discard
    let n := removed.length + if arrival then 1 else 0
    let code : Byte := match kind with | .dump => 1 | .mark => 2 | .exit => 3
    let splice : List Packet :=
      if b.splice.enabled = true ∧ 0 < n then
        [{ source := .splice, type := b.splice.type
           payload := be16 n ++ [code] ++ be16 (min 65535 (toMs b.fmt.rate kept.length)) }]
      else []
    let batch := removed.flatMap (·.carryCopy) ++ splice
    let room := 32 - b.dl.carried.length
    let pages := removed.flatMap (·.pages)
    let t := (s.cut l b kind kept removed takeArrival mapped).1
    (s.cut l b kind kept removed takeArrival mapped).2 = { frames := n, arrival := arrival, depth := kept.length } ∧
    t.body? l = some { b with
      dl := { b.dl with
        records := kept
        carried := b.dl.carried ++ batch.take room
        mark := markAfter b.dl.mark (removed.map (·.seq)) .removed }
      intake := { b.intake with
        arrival := if arrival then b.intake.arrival.map fun f => { f with discard := true } else b.intake.arrival } } ∧
    (t.lanes.get l).counters = (s.lanes.get l).counters.lose (batch.drop room) ∧
    (∀ k, k ≠ l → t.lanes.get k = s.lanes.get k) ∧
    freeList t.store.free = freeList s.store.free ++ pages ∧
    t.store = { s.store with
      free := t.store.free, inUse := s.store.inUse.set l (s.store.inUse.get l - pages.length) } ∧
    t = { s with lanes := t.lanes, store := t.store, link := t.link } ∧
    t.link = (s.postAll (lostPosts l false (batch.drop room) ++ [(some l, .dumpDone kind n mapped)])).link

/-- A leader's cut that removes a frame is mapped onto each of its followers in ascending lane order (R148, R149): the range
runs from the oldest frame removed to the highest seq the leader has assigned; on a follower it is taken through the offset,
removes the records and the frame in arrival whose seqs lie in it, and raises the discard-through value to the range's end.
A cut that removes nothing is not mapped. -/
def Obligations.LeaderCutIsMappedOnItsFollowers : Prop :=
  ∀ (s : State) (l : Lane) (b : LaneBody) (kind : CutKind) (kept removed : List Record) (takeArrival : Bool),
    s.body? l = some b → b.link = none →
    let own := s.cut l b kind kept removed takeArrival false
    let first := match removed, b.intake.arrival with
      | r :: _, _ => r.seq
      | [], some f => f.seq
      | [], none => b.intake.nextSeq
    let last := b.intake.nextSeq - 1
    let mapped (u : State) (f : Lane) (fb : LaneBody) (off : Seq) : State :=
      let hit (x : Seq) : Bool := decide ((x - (first - off)).toNat ≤ (last - first).toNat)
      let through := match fb.intake.discardThrough with
        | none => last - off
        | some v => if 1 ≤ (last - off - v).toNat ∧ (last - off - v).toNat ≤ 2147483647 then last - off else v
      (u.cut f { fb with intake := { fb.intake with discardThrough := some through } } kind
        (fb.dl.records.filter fun x => !hit x.seq) (fb.dl.records.filter fun x => hit x.seq)
        (fb.intake.arrival.any fun a => hit a.seq) true).1
    s.leadCut l b kind kept removed takeArrival =
      (if own.2.frames = 0 then own.1
       else (s.followersOf l).foldl (fun u f =>
         match s.body? f with
         | none => u
         | some fb =>
           match fb.link with
           | none => u
           | some k => mapped u f fb k.off) own.1, own.2)

/-- LANE_DUMP and LANE_CUT_TO_MARK on a lane that is no follower (R135, R136, R138 to R141, R185): a dump removes the newest
records up to the dump size, H in whole-line mode, and the frame in arrival, and is PARTIAL where the line held fewer; a
cut to the mark removes what the mark's standing calls for, from the marked record on when it is HELD, nothing when it is
PENDING, and clears the mark. In PASS, and without a mark, they are refused. -/
def Obligations.DumpsAndCutsToMark : Prop :=
  ∀ (s : State) (p : Port) (r : Request) (l : Lane) (b : LaneBody), s.body? l = some b → b.link = none →
    let bytes (x : CutReport) : List Byte := be16 x.frames ++ [boolByte x.arrival] ++ be16 x.depth
    (Asks s p r 0x2A [laneByte (some l)] →
      let size := if b.timing.dump.ms = 0 then b.h else b.timing.dump.frames
      (b.mode = .pass → exec .laneDump s = .next (served s p r id .notDelaying [])) ∧
      ∀ kept removed, b.mode ≠ .pass → b.dl.records = kept ++ removed → removed.length = min size b.h →
        let c := (s.takeRequest p).leadCut l b .dump kept removed true
        exec .laneDump s = .next
          (c.1.reply p r { result := if b.h < size then .partialCut else .ok, body := bytes c.2 })) ∧
    (Asks s p r 0x2C [laneByte (some l)] →
      (b.mode = .pass → exec .laneCutToMark s = .next (served s p r id .notDelaying [])) ∧
      (b.mode ≠ .pass → b.dl.mark = none → exec .laneCutToMark s = .next (served s p r id .noMark [])) ∧
      ∀ m kept removed, b.mode ≠ .pass → b.dl.mark = some m → b.dl.records = kept ++ removed →
        (match m.standing with
          | .held => (∀ x ∈ kept, x.seq ≠ m.seq) ∧ (removed.head?.map (·.seq)) = some m.seq
          | .arriving | .pending => removed = []
          | .gone .aired => kept = []
          | .gone .removed =>
            (∀ x ∈ kept, ¬(1 ≤ (x.seq - m.seq).toNat ∧ (x.seq - m.seq).toNat ≤ 2147483647)) ∧
            ∀ x ∈ removed, 1 ≤ (x.seq - m.seq).toNat ∧ (x.seq - m.seq).toNat ≤ 2147483647) →
        let c := (s.takeRequest p).leadCut l b .mark kept removed (decide (m.standing ≠ .pending))
        exec .laneCutToMark s = .next
          ((c.1.modBody l fun x => { x with dl := { x.dl with mark := none } }).reply p r
            { result := if m.standing = .gone .aired then .markAired else .ok, body := bytes c.2 }))

/-- The NOW form of LANE_EXIT on a lane that is no follower (R12, R143, R150): in PASS it is refused; otherwise it cuts the
whole line and the frame in arrival, on the lane and on each follower, whose pending count becomes 0 and whose
discard-through value is raised to the leader's last seq when the leader has assigned one since the link; then the governor's
account is cleared and the lane goes to PASS, its followers with it. -/
def Obligations.ExitNowEmptiesTheLine : Prop :=
  ∀ (s : State) (p : Port) (r : Request) (l : Lane) (b : LaneBody), s.body? l = some b → b.link = none →
    Asks s p r 0x29 [laneByte (some l), 1] →
    (b.mode = .pass → exec .laneExitNow s = .next (served s p r id .notDelaying [])) ∧
    (b.mode ≠ .pass →
      let own := (s.takeRequest p).cut l b .exit [] b.dl.records true false
      let last := b.intake.nextSeq - 1
      let mapped (u : State) (f : Lane) (fb : LaneBody) (k : FollowerLink) : State :=
        let through := match fb.intake.discardThrough with
          | none => last - k.off
          | some v => if 1 ≤ (last - k.off - v).toNat ∧ (last - k.off - v).toNat ≤ 2147483647 then last - k.off else v
        (u.cut f { fb with
          intake := { fb.intake with
            discardThrough := if k.leaderMoved then some through else fb.intake.discardThrough }
          link := some { k with pending := 0 } } .exit [] fb.dl.records true true).1
      let cutAll := (s.followersOf l).foldl (fun u f =>
        match s.body? f with
        | none => u
        | some fb =>
          match fb.link with
          | none => u
          | some k => mapped u f fb k) own.1
      let cleared := cutAll.modBody l fun x =>
        { x with gov := { x.gov with engaged := false, since := 0, inserts := 0, skips := 0 } }
      exec .laneExitNow s = .next ((cleared.changeMode l .pass .message).reply p r
        { result := .ok, body := be16 own.2.frames ++ [boolByte own.2.arrival] ++ be16 own.2.depth }))

/-! ### The lane's report -/

/-- LANE_STATUS (R129, R184): view 0 shows the lane's state, view 1 its ten counters, view 2 its settings, an OFF lane showing
zeros in views 0 and 2; the controller's clear flag sets the counters to 0 after the snapshot; any other view is refused
BAD_ARGUMENT. Nothing else changes. The deviation shown is 0 in PASS and before a lane's first tick after a configure, 1 − D
in DRAIN, and T − D, or 0 without a target, on a follower; that it is otherwise the one stored at the last tick is the model's
reading (log 13). That a target while unset and a dump size in whole-line mode are shown as 0 frames and 0 ms is the model's
choice (log 33). -/
def Obligations.LaneStatusShowsTheLane : Prop :=
  ∀ (s : State) (p : Port) (r : Request) (l : Lane) (view : Byte) (clear : Bool),
    AsksEither s p r 0x30 [laneByte (some l), view, boolByte clear] → (clear = true → s.link.controller = p) →
    let bit (n : Nat) (x : Bool) : Nat := if x then n else 0
    let body := s.body? l
    let shown (f : LaneBody → List Byte) (n : Nat) : List Byte := (body.map f).getD (List.replicate n 0)
    let state (b : LaneBody) : List Byte :=
      let ms (frames : Nat) : Nat := toMs b.fmt.rate frames
      let target := (b.timing.target.map (·.frames)).getD 0
      let depth : Int := b.play.depth
      let dev : Int :=
        if b.gov.ticked = false then 0
        else match b.mode with
          | .pass => 0
          | .drain => 1 - depth
          | _ =>
            if b.link.isSome then (match b.timing.target with | none => 0 | some t => (t.frames : Int) - depth)
            else b.gov.dev
      let c := b.dl.sources
      let standing : Byte := match (b.dl.mark.map Mark.standing : Option Standing) with
        | none => 0
        | some .pending => 1
        | some .arriving => 2
        | some .held => 3
        | some (.gone .aired) => 4
        | some (.gone .removed) => 5
      let followers := (s.followersOf l).map fun f => match f with | .l1 => 1 | .l2 => 2 | .l3 => 4 | .l4 => 8
      [stateByte (some b.mode),
        BitVec.ofNat 8 (bit 1 (b.gov.engaged && b.link.isNone) + bit 2 b.intake.loss + bit 4 b.timing.target.isSome +
          bit 8 (b.timing.dump.ms == 0) + bit 16 b.link.isSome + bit 32 b.intake.arrival.isSome)] ++
      be16 b.h ++ be16 b.play.depth ++ be24 (ms b.play.depth) ++ be16Int dev ++ be16 target ++ be16 (ms target) ++
      be16 b.timing.dump.frames ++ be16 (ms b.timing.dump.frames) ++ be16 b.timing.lead.frames ++
      be32 ((b.dl.mark.map fun m => m.seq.toNat).getD 0) ++
      [standing, BitVec.ofNat 8 (bit 1 c.control + bit 2 c.panel + bit 4 c.watch + bit 8 c.leader),
        BitVec.ofNat 8 b.play.quietRun] ++ be16 b.gov.since ++
      [BitVec.ofInt 8 ((b.link.map (·.pending)).getD 0), laneByte (b.link.map (·.leader)), BitVec.ofNat 8 followers.sum] ++
      be16 b.gov.inserts ++ be16 b.gov.skips
    let k := (s.lanes.get l).counters
    let counters : List Byte := be16 k.underrun ++ be16 k.overflow ++ be16 k.slip ++ be16 k.damaged ++ be16 k.malformed ++
      be16 k.formatMismatch ++ be16 k.ancDropped ++ be16 k.ancLost ++ be16 k.carryLost ++ be16 k.linkSlip
    let settings (b : LaneBody) : List Byte :=
      [BitVec.ofNat 8 b.fmt.rate.val, classByte b.fmt.vclass, BitVec.ofNat 8 b.fmt.channels.toNat] ++
      be24 (s.store.budget.get l) ++ be16 b.maxH ++
      be24 b.govSet.threshold ++ be16 b.govSet.mask.toNat ++ [BitVec.ofNat 8 b.govSet.q, BitVec.ofNat 8 b.govSet.s] ++
      be16 b.govSet.f ++ [BitVec.ofNat 8 b.govSet.e] ++
      [fillKindByte b.play.fill.kind] ++ be24 b.play.fill.amplitude ++ be16 b.play.fill.mask.toNat ++
      [boolByte b.splice.enabled] ++ be16 b.splice.type.toNat
    let cleared (u : State) : State :=
      if clear then { u with lanes := u.lanes.set l { u.lanes.get l with counters := .zero } } else u
    (view = 0 → exec .laneStatus s = .next (served s p r cleared .ok (0 :: shown state 37))) ∧
    (view = 1 → exec .laneStatus s = .next (served s p r cleared .ok (1 :: counters))) ∧
    (view = 2 → exec .laneStatus s = .next (served s p r cleared .ok (2 :: shown settings 27))) ∧
    (2 < view.toNat → exec .laneStatus s = .next (served s p r id .badArgument []))

/-! ### Frame Intake -/

/-- The full-line check (R7, R44, R83, R75): the heads in excess of the limit, 2 in PASS and M otherwise, are discarded; each
one's batch joins the front of the departure packet list; their pages are freed in order; each counts OVERFLOW with a notice,
or SLIP in PASS. A line below its limit is left as it is. One CARRY_LOST notice for a check that drops packets is the model's
reading (log 12). -/
def Obligations.FullLineDiscardsTheHeads : Prop :=
  ∀ (s : State) (l : Lane) (b : LaneBody) (gone rest : List Record), s.body? l = some b →
    let limit := if b.mode = .pass then 2 else b.maxH
    b.dl.records = gone ++ rest → gone.length = (if b.h < limit then 0 else b.h + 1 - limit) →
    let joined := gone.foldl
      (fun (a : List Packet × List Packet) r =>
        (r.carryCopy.take (32 - a.1.length) ++ a.1, a.2 ++ r.carryCopy.drop (32 - a.1.length))) (b.dl.departing, [])
    let pages := gone.flatMap (·.pages)
    let lost := (s.lanes.get l).counters.lose joined.2
    let t := s.fullLineCheck l
    t.body? l = some { b with dl := { b.dl with
      records := rest, departing := joined.1, mark := markAfter b.dl.mark (gone.map (·.seq)) .removed } } ∧
    (t.lanes.get l).counters =
      (if b.mode = .pass then { lost with slip := satAdd 65535 lost.slip gone.length }
       else { lost with overflow := satAdd 65535 lost.overflow gone.length }) ∧
    (∀ k, k ≠ l → t.lanes.get k = s.lanes.get k) ∧
    freeList t.store.free = freeList s.store.free ++ pages ∧
    t.store = { s.store with
      free := t.store.free, inUse := s.store.inUse.set l (s.store.inUse.get l - pages.length) } ∧
    t = { s with lanes := t.lanes, store := t.store, link := t.link } ∧
    t.link = (s.postAll (lostPosts l true joined.2 ++
      if b.mode = .pass then [] else gone.map fun r => (some l, .overflow r.seq))).link

/-- ARRIVAL_START (R4, R32, R43, R45, R46, R60, R61, R74): an OFF lane ignores it; a frame in arrival is first completed as a
truncated arrival; then, after the full-line check, the new frame takes ppf pages from the head of the free list and the
lane's next-seq, is flagged while the cover source set is not empty, and on a follower is tested against the discard-through
value. The tick count and the loss flag stay; the links of its followers note that the lane assigned a seq (log 26). -/
def Obligations.ArrivalStartTakesPagesAndSeq : Prop :=
  ∀ (s : State) (l : Lane) (raster : Raster) (cut : Delivery), cut.ok = true →
    (s.body? l = none → exec (.arrivalStart l raster cut) s = .next s) ∧
    (∀ b f, s.body? l = some b → b.intake.arrival = some f →
      exec (.arrivalStart l raster cut) s = exec (.arrivalStart l raster cut) (s.completeFrame l b f cut true)) ∧
    ∀ b c, s.body? l = some b → b.intake.arrival = none → s.leaderOf? l ≠ some l → (s.fullLineCheck l).body? l = some c →
      let u := s.fullLineCheck l
      let ppf := pagesPerFrame b.fmt.vclass
      let q := b.intake.nextSeq
      let within := b.link.isSome && b.intake.discardThrough.any fun v => decide ((v - q).toNat < 2147483648)
      let moved (x : LaneBody) : LaneBody := { x with link := x.link.map fun k => { k with leaderMoved := true } }
      ppf ≤ (freeList u.store.free).length →
      ∃ t, exec (.arrivalStart l raster cut) s = .next t ∧
        t.body? l = some { c with
          intake := { c.intake with
            nextSeq := q + 1
            discardThrough :=
              if b.link = none then b.intake.discardThrough
              else if within = true ∧ b.intake.discardThrough ≠ some q then b.intake.discardThrough else none
            arrival := some
              { seq := q, pages := (freeList u.store.free).take ppf, covered := decide (b.dl.sources ≠ .empty)
                discard := within, ticksSeen := 0, accepted := 0, own := [], carryCopy := [], raster := raster, written := 0 } }
          dl := { c.dl with mark := c.dl.mark.map fun m =>
            if m.standing = .pending ∧ m.seq = q then { m with standing := .arriving } else m } } ∧
        (∀ k, k ≠ l → t.body? k = if k ∈ s.followersOf l then (u.body? k).map moved else u.body? k) ∧
        (∀ k, (t.lanes.get k).counters = (u.lanes.get k).counters) ∧
        freeList t.store.free = (freeList u.store.free).drop ppf ∧
        t.store = { u.store with free := t.store.free, inUse := u.store.inUse.set l (u.store.inUse.get l + ppf) } ∧
        t = { u with lanes := t.lanes, store := t.store }

/-- PACKET_ARRIVAL (R53 to R55, R57, R58, R70, R80): with no frame in arrival on the lane it is ignored; a packet after the
frame's 32nd is dropped and counted; otherwise the first route entry that matches, or the default class, says where it goes,
and then every watch entry it matches posts WATCH_HIT and, on a lane that is no follower, acts, in index order. -/
def Obligations.PacketsAreRoutedAndWatched : Prop :=
  ∀ (s : State) (l : Lane) (ty : PacketType) (payload : List Byte), payload.length ≤ 255 →
    ((s.body? l).bind (·.intake.arrival) = none → exec (.packetArrival l ty payload) s = .next s) ∧
    ∀ b f, s.body? l = some b → b.intake.arrival = some f →
      let k := (s.lanes.get l).counters
      let dropped : LaneCounters := { k with ancDropped := satAdd 65535 k.ancDropped 1 }
      let lane (x : LaneCounters) (y : LaneBody) : State :=
        { s with lanes := s.lanes.set l { counters := x, body := some y } }
      let cls := match b.intake.routes.find? fun e => decide (e.low.toNat ≤ ty.toNat ∧ ty.toNat ≤ e.high.toNat) with
        | some e => e.cls
        | none => b.intake.defaultClass
      let frame : InArrival :=
        { f with
          accepted := f.accepted + 1
          own := f.own ++ match cls with
            | .live | .drop => []
            | .delay => [{ carry := false, type := ty, payload := payload }]
            | .carry => [{ carry := true, type := ty, payload := payload }]
          carryCopy := f.carryCopy ++ if cls = .carry then [{ source := .carry, type := ty, payload := payload }] else [] }
      let room := b.dl.departing.length < 32
      let taken :=
        lane (if cls = .live ∧ ¬room then dropped else k)
          { b with
            intake := { b.intake with arrival := some frame }
            dl := { b.dl with departing := b.dl.departing ++
              if cls = .live ∧ room then [{ source := .live, type := ty, payload := payload }] else [] } }
      let hits := (b.intake.watch.mapIdx fun i e => (i, e)).filter fun x =>
        decide (x.2.type = ty ∧ payload.take x.2.bytes.length = x.2.bytes)
      let act (u : State) (x : Nat × WatchEntry) : State :=
        let v := u.post (some l) (.watchHit x.1 f.seq)
        if b.link.isSome then v
        else
          match x.2.action with
          | .mark => v.modBody l fun y => { y with dl := { y.dl with mark := some { seq := f.seq, standing := .arriving } } }
          | .coverOn => v.addSource l .watch
          | .coverOff => v.removeSource l .watch
          | .notify => v
      exec (.packetArrival l ty payload) s =
        .next (if 32 ≤ f.accepted then lane dropped b else hits.foldl act taken)

/-- ARRIVAL_COMPLETION (R35, R47 to R52, R66, R74, R82): with no frame in arrival it is ignored. Otherwise the count and a
declared loss end; a frame marked for discard gives its CARRY packets to the carried-packet list and its pages back; any
other is appended, with its audio kept when every channel delivered one legal count, its video kept when the whole raster of
the class came, its level measured over the quiet mask, and the carried-packet list as its prefix. A truncated arrival is
the same without a whole raster (R46). When the pages' writes complete follows the model's readings (logs 4, 10, 11). -/
def Obligations.CompletedFramesJoinTheLine : Prop :=
  ∀ (s : State) (l : Lane) (d : Delivery), d.ok = true →
    ((s.body? l).bind (·.intake.arrival) = none → exec (.arrivalCompletion l d) s = .next s) ∧
    ∀ b f, s.body? l = some b → b.intake.arrival = some f →
      exec (.arrivalCompletion l d) s = .next (s.completeFrame l b f d false) ∧
      ∀ truncated : Bool,
        let n := b.fmt.channels.toNat
        let legal : List Nat :=
          [[2002], [2000], [1920], [1601, 1602], [1600], [960], [800, 801], [800]].getD b.fmt.rate.val []
        let count : Option Nat := match (d.audio.take n).filterMap id with
          | [] => none
          | x :: rest => if (∀ y ∈ rest, y.length = x.length) ∧ x.length ∈ legal then some x.length else none
        let audio : List (List Sample) := match count with
          | none => []
          | some m => (List.range n).map fun i => ((d.audio[i]?).join).getD (List.replicate m 0)
        let peak := ((((List.range n).filter fun i => b.govSet.mask.getLsbD i).flatMap fun i => audio.getD i []).map
          fun x => min 8388607 x.toInt.natAbs).foldl max 0
        let rasterFits := match b.fmt.vclass, f.raster with
          | .hd720, .hd720 | .hd1080, .hd1080 => true
          | _, _ => false
        let good := rasterFits && d.whole && !truncated
        let video := videoPages b.fmt.vclass f.pages
        let last := f.pages.drop video.length
        let writes :=
          if good then video.drop f.written ++ last else if f.discard then last
          else if d.audioPageFirst then last ++ video else video ++ last
        let written := s.store.writePages writes
        let room := 32 - b.dl.carried.length
        let lost := if f.discard then f.carryCopy.drop room else []
        let record : Record :=
          { seq := f.seq, origin := .received, pages := f.pages, samples := count.getD (cadence b.fmt.rate 0)
            audioState := if count.isSome then .normal else .malformed
            level := peak, covered := f.covered, carriedPrefix := b.dl.carried, own := f.own, damage := none
            picture := if good then .received d.picture else .black
            audio := audio, carryCopy := b.dl.carried ++ f.carryCopy }
        let mark (x : Standing) := b.dl.mark.map fun m =>
          if m.standing = .arriving ∧ m.seq = f.seq then { m with standing := x } else m
        let k := (s.lanes.get l).counters
        let t := s.completeFrame l b f d truncated
        t.body? l = some { b with
          intake := { b.intake with
            arrival := none, ticksSince := 0, loss := false, owed := if b.intake.loss then 0 else b.intake.owed }
          dl :=
            if f.discard then
              { b.dl with carried := b.dl.carried ++ f.carryCopy.take room, mark := mark (.gone .removed) }
            else { b.dl with records := b.dl.records ++ [record], carried := [], mark := mark .held } } ∧
        (t.lanes.get l).counters = (if f.discard then k.lose lost else { k with
          malformed := satAdd 65535 k.malformed (if count = none then 1 else 0)
          formatMismatch := satAdd 65535 k.formatMismatch (if b.fmt.vclass ≠ .audioOnly ∧ good = false then 1 else 0) }) ∧
        (∀ j, j ≠ l → t.lanes.get j = s.lanes.get j) ∧
        t.store = (if f.discard then written.giveBack l f.pages else written) ∧
        t = { s with lanes := t.lanes, store := t.store, link := t.link } ∧
        t.link = (s.postAll ((if b.intake.loss then [(some l, Detail.input true)] else []) ++ lostPosts l false lost)).link

/-- Frame Intake at a tick (R44, R45, R61 to R65, R74): the count of ticks since a completion rises to 3, where the loss is
declared and three fills fall due, and one more at each tick while the loss lasts. The fills due and owed are made at once
while no frame is arriving; they are owed, at most 3, for a frame that began after the last tick; and a frame that has
spanned a tick is abandoned for them. A fill takes the next seq and joins the line with no pages, unless a follower's
discard-through value covers it. INPUT_LOSS_DECLARED is the tick that declares, and no other (log 2). The CARRY_LOST notice
of an abandonment follows the model's reading (log 12). -/
def Obligations.LostInputIsFilled : Prop :=
  ∀ (s : State) (l : Lane) (b : LaneBody), s.body? l = some b →
    let i := b.intake
    let declares := i.ticksSince = 2 ∧ i.loss = false
    let due := if declares then 3 else if i.loss then 1 else 0
    let posts := if declares then [(some l, Detail.input false)] else []
    let ticked (arrival : Option InArrival) (owed : Nat) : Intake :=
      { i with
        ticksSince := if i.ticksSince < 3 then i.ticksSince + 1 else i.ticksSince
        loss := i.loss || decide declares
        arrival := arrival, owed := owed }
    let seen (f : InArrival) : InArrival := { f with ticksSeen := f.ticksSeen + 1 }
    let noted := s.postAll posts
    (∀ first, ∃ t, exec (.laneTick l first) s = .next t ∧
      exec (.inputLossDeclared l first) s = .next (if declares then t else s)) ∧
    (due = 0 → s.intakeTick l = s.setBody l (some { b with intake := ticked (i.arrival.map seen) i.owed })) ∧
    (due ≠ 0 →
      (i.arrival = none → s.intakeTick l =
        (noted.setBody l (some { b with intake := ticked none 0 })).makeFills l (due + i.owed)) ∧
      ∀ f, i.arrival = some f →
        (f.ticksSeen = 0 → s.intakeTick l =
          noted.setBody l (some { b with intake := ticked (some (seen f)) (min 3 (i.owed + due)) })) ∧
        (f.ticksSeen ≠ 0 → ∃ u : State, s.intakeTick l = u.makeFills l (due + i.owed) ∧
          u.body? l = some { b with
            intake := ticked none 0
            dl := { b.dl with
              carried := b.dl.carried ++ f.carryCopy.take (32 - b.dl.carried.length)
              mark := b.dl.mark.map fun m =>
                if m.standing = .arriving ∧ m.seq = f.seq then { m with standing := .gone .removed } else m } } ∧
          (u.lanes.get l).counters = (s.lanes.get l).counters.lose (f.carryCopy.drop (32 - b.dl.carried.length)) ∧
          (∀ k, k ≠ l → u.lanes.get k = s.lanes.get k) ∧
          u.store = s.store.giveBack l f.pages ∧ u = { s with lanes := u.lanes, store := u.store, link := u.link } ∧
          u.link = (s.postAll (posts ++ lostPosts l false (f.carryCopy.drop (32 - b.dl.carried.length)))).link)) ∧
    (s.makeFills l 0 = s ∧ ∀ n, s.makeFills l (n + 1) = (s.makeFill l).makeFills l n) ∧
    ∀ c, (s.fullLineCheck l).body? l = some c → s.leaderOf? l ≠ some l →
      let u := s.fullLineCheck l
      let q := i.nextSeq
      let within := b.link.isSome && i.discardThrough.any fun v => decide ((v - q).toNat < 2147483648)
      let fill : Record :=
        { seq := q, origin := .fill, pages := [], samples := cadence b.fmt.rate 0, audioState := .normal, level := 0
          covered := decide (b.dl.sources ≠ .empty), carriedPrefix := [], own := [], damage := none, picture := .black
          audio := [], carryCopy := [] }
      let moved (x : LaneBody) : LaneBody := { x with link := x.link.map fun k => { k with leaderMoved := true } }
      let t := s.makeFill l
      t.body? l = some { c with
        intake := { c.intake with
          nextSeq := q + 1
          discardThrough :=
            if b.link = none then i.discardThrough
            else if within = true ∧ i.discardThrough ≠ some q then i.discardThrough else none }
        dl := { c.dl with
          records := if within then c.dl.records else c.dl.records ++ [fill]
          mark := c.dl.mark.map fun m =>
            if m.standing = .pending ∧ m.seq = q then { m with standing := if within then .gone .removed else .held }
            else m } } ∧
      (∀ k, k ≠ l → t.body? k = if k ∈ s.followersOf l then (u.body? k).map moved else u.body? k) ∧
      (∀ k, (t.lanes.get k).counters = (u.lanes.get k).counters) ∧ t = { u with lanes := t.lanes }

/-! ### Playout -/

/-- The audio of the output is exact (R100): the cadence of each rate is the manual's, an accepted configure sets the output
phase to 0, and every tick of a configured lane, whatever it holds and whatever its action, emits one frame of exactly S(k)
samples on every configured channel at the present phase k, which then advances by one modulo P. Over any P consecutive
phases the samples are those of one cadence cycle. -/
def Obligations.EmittedAudioIsExact : Prop :=
  (∀ (r : Fin 8) (k : Nat), cadence r k =
    (k + 1) * 48000 * rateDen r / rateNum r - k * 48000 * rateDen r / rateNum r) ∧
  (∀ r : Fin 8, (List.range (cadencePeriod r)).map (cadence r) =
    ([[2002], [2000], [1920], [1601, 1602, 1601, 1602, 1602], [1600], [960], [800, 801, 801, 801, 801], [800]] :
      List (List Nat)).getD r.val []) ∧
  (∀ (r : Fin 8) (k : Nat), k < cadencePeriod r →
    ((List.range (cadencePeriod r)).map fun i => cadence r ((k + i) % cadencePeriod r)).sum =
      ([2002, 2000, 1920, 8008, 1600, 960, 4004, 800] : List Nat).getD r.val 0) ∧
  (∀ (s t : State) (p : Port) (r : Request) (l : Lane) (body : List Byte), Asks s p r 0x20 (laneByte (some l) :: body) →
    exec .laneConfigure s = .next t →
    ((t.link.ports.get p).replies.getLast?.any fun x => x.result == .ok || x.result == .clamped) = true →
    ∃ b, t.body? l = some b ∧ b.play.phase = 0) ∧
  ∀ (s : State) (l : Lane) (intakeFirst : Bool) (b : LaneBody), s.body? l = some b →
    ∃ (t : State) (c : LaneBody) (e : Emitted), exec (.laneTick l intakeFirst) s = .next t ∧ t.body? l = some c ∧
      c.fmt = b.fmt ∧ c.play.phase = (b.play.phase + 1) % cadencePeriod b.fmt.rate ∧ c.play.output = some e ∧
      e.audio.length = b.fmt.channels.toNat ∧ (∀ x ∈ e.audio, x.length = cadence b.fmt.rate b.play.phase) ∧
      c.play.lastBlock = some e.audio

/-- What a tick emits once its action is settled (R36, R75, R83, R84, R91 to R98, R101, R102, R104 to R107, R109): with no
action the head departs, its pages read, its audio fitted and covered, damage replaced by the hold's picture or by silence; an
empty line, and an insertion, repeat the hold's picture and the last block; a skip first removes the head unaired. The packets
are the frame's own and then up to 32 of the departure packet list. A tick of a configured lane settles its action and emits;
Frame Intake's work at the tick comes before or after it. The order of the two at one moment is the command's operand, the
model's convention (log 4). The tone entry T(k) at an amplitude A lies in −A..A, is 0, A, 0 and −A at k = 0, 12, 24 and 36 and
the half of A, rounded up, at 4, is symmetric about 12 and turns its sign after 24, and lies within a half, and a margin of
10^−12, of A times the sine (R105). -/
def Obligations.TicksEmitTheFrameOfTheirAction : Prop :=
  (∀ a : Nat, a ≤ 8388607 →
    (∀ k, k < 48 → -(a : Int) ≤ toneEntry a k ∧ toneEntry a k ≤ a ∧
      |(toneEntry a k : ℝ) - a * Real.sin (2 * Real.pi * k / 48)| ≤ 1 / 2 + 1 / 10 ^ 12) ∧
    toneEntry a 0 = 0 ∧ toneEntry a 12 = a ∧ toneEntry a 24 = 0 ∧ toneEntry a 36 = -a ∧
    toneEntry a 4 = ((a + 1) / 2 : Nat) ∧
    (∀ k, k ≤ 24 → toneEntry a (24 - k) = toneEntry a k) ∧
    ∀ k, k < 24 → toneEntry a (24 + k) = -toneEntry a k) ∧
  ∀ (s : State) (l : Lane) (b : LaneBody), s.body? l = some b →
    let channels := b.fmt.channels.toNat
    let n := cadence b.fmt.rate b.play.phase
    let hold := b.play.hold
    let fitted (xs : List Sample) : List Sample :=
      if n < xs.length then xs.take n else xs ++ List.replicate (n - xs.length) (xs.getLastD 0)
    let fit (block : List (List Sample)) : List (List Sample) := (List.range channels).map fun i => fitted (block.getD i [])
    let picture := match hold with | none => .black | some h => h.picture
    let holdPages := match hold with | none => [] | some h => videoPages b.fmt.vclass h.pages
    let sent (x : Packet) : PacketType × List Byte := (x.type, x.payload)
    let emit (x : LaneBody) (video : Picture) (audio : List (List Sample)) (packets : List (PacketType × List Byte))
        (level : Nat) : LaneBody :=
      { x with
        dl := { x.dl with departing := b.dl.departing.drop 32 }
        play := { x.play with
          phase := (b.play.phase + 1) % cadencePeriod b.fmt.rate
          lastBlock := some audio
          prevLevel := level
          quietRun := if level ≤ b.govSet.threshold then satAdd 255 b.play.quietRun 1 else 0
          output := some
            { video := if b.fmt.vclass = .audioOnly then none else some video
              audio := audio, packets := packets ++ (b.dl.departing.take 32).map sent } } }
    let repeated := (s.readPages holdPages).setBody l (some (emit b picture
      (match b.play.lastBlock with
        | none => List.replicate channels (List.replicate n 0)
        | some block => fit block) [] b.play.prevLevel))
    s.emission l .insert = repeated ∧
    (b.dl.records = [] →
      let k := (s.lanes.get l).counters
      let count := satAdd 65535 k.underrun 1
      let slot : LaneSlot := { repeated.lanes.get l with counters := { k with underrun := count } }
      s.emission l .nothing =
        ({ repeated with lanes := repeated.lanes.set l slot } : State).post (some l) (.underrun count)) ∧
    (∀ r rest, b.dl.records = r :: rest →
      let received := decide (r.origin = .received)
      let videoBad := received && (videoPages b.fmt.vclass r.pages).any s.store.pageBad
      let audioBad := received && (r.pages.drop (videoPages b.fmt.vclass r.pages).length).any s.store.pageBad
      let damage : Option Damage := match videoBad, audioBad with
        | false, false => none
        | true, false => some .video
        | false, true => some .audio
        | true, true => some .both
      let named := (List.range channels).any fun i => b.play.fill.mask.getLsbD i
      let fills := r.covered && named
      let tone := if b.play.fillRun then b.play.tonePhase else 0
      let fillLevel := match b.play.fill.kind with | .silence => 0 | .tone => b.play.fill.amplitude
      let cover (i : Nat) (xs : List Sample) : List Sample :=
        if fills = true ∧ b.play.fill.mask.getLsbD i = true then
          (List.range n).map fun j => match b.play.fill.kind with
            | .silence => 0
            | .tone => BitVec.ofInt 24 (toneEntry b.play.fill.amplitude ((tone + j) % 48))
        else xs
      let stored := if received = false ∨ r.audioState = .malformed ∨ audioBad = true then
          List.replicate channels (List.replicate r.samples 0)
        else r.audio
      let packets := if audioBad then [] else r.carriedPrefix.map sent ++ r.own.map fun x => (x.type, x.payload)
      let reads := if received then r.pages ++ if videoBad then holdPages else [] else []
      let held := received && !videoBad
      let freed := if held then (hold.map (·.pages)).getD [] else r.pages
      let e := emit b (if received then if videoBad then picture else r.picture else .black)
        ((fit stored).mapIdx cover) packets
        (if fills then fillLevel else if audioBad then 0 else r.level)
      let lane : LaneBody :=
        { e with
          dl := { e.dl with records := rest, mark := markAfter b.dl.mark [r.seq] .aired }
          play := { e.play with
            hold := if held then some { r with damage := damage, carryCopy := [] } else hold
            fillRun := fills
            tonePhase := if fills then (tone + n) % 48 else b.play.tonePhase } }
      let k := (s.lanes.get l).counters
      let read := s.readPages reads
      let t := s.emission l .nothing
      t.body? l = some lane ∧
      (t.lanes.get l).counters = { k with
        ancLost := satAdd 65535 k.ancLost (if audioBad then r.carriedPrefix.length + r.own.length else 0)
        damaged := satAdd 65535 k.damaged (if damage.isSome then 1 else 0) } ∧
      (∀ j, j ≠ l → t.lanes.get j = s.lanes.get j) ∧
      t.store = read.store.giveBack l freed ∧
      t = { s with lanes := t.lanes, store := t.store, link := t.link } ∧
      t.link = (read.postAll (match damage with | none => [] | some d => [(some l, .damaged r.seq d)])).link) ∧
    (∀ r rest, b.dl.records = r :: rest →
      let room := 32 - b.dl.departing.length
      let lost := r.carryCopy.drop room
      ∃ u : State, s.emission l .skip = u.emission l .nothing ∧
        u.body? l = some { b with dl := { b.dl with
          records := rest
          departing := r.carryCopy.take room ++ b.dl.departing
          mark := markAfter b.dl.mark [r.seq] .removed } } ∧
        (u.lanes.get l).counters = (s.lanes.get l).counters.lose lost ∧
        (∀ j, j ≠ l → u.lanes.get j = s.lanes.get j) ∧
        u.store = s.store.giveBack l r.pages ∧ u = { s with lanes := u.lanes, store := u.store, link := u.link } ∧
        u.link = (s.postAll (lostPosts l true lost)).link) ∧
    let played (u : State) : State :=
      match u.body? l with
      | none => u
      | some c => (u.settleAction l c).1.emission l (u.settleAction l c).2
    exec (.laneTick l true) s = .next (played (s.intakeTick l)) ∧
    exec (.laneTick l false) s = .next ((played s).intakeTick l)

/-! ### The Rebuild Governor -/

/-- How a tick settles its action on a lane that is no follower (R10, R13, R90, R107, R111 to R120, R124): D is recorded; in
PASS, and in DRAIN with D ≤ 1, which ends the drain, the action is NONE; otherwise a disengaged governor engages when the
deviation reaches E, an engaged one lets go at 0, and a tick that reaches the decision raises since and acts when since is at
least S and the quiet run at least Q or since at least F: INSERT for a positive deviation, SKIP for a negative one with H ≥ 2
and a quiet candidate or by force. The action is handed to each follower. A lane's first tick after a configure reaches no
decision and leaves since (R115), while its engagement step is made, by the model's reading (log 32). GOVERNOR_FORCE is the
tick at which an action is due by F, and no other (log 2). That the recorded deviation is kept as it stands is the model's
reading (log 13). -/
def Obligations.GovernorDecidesTheAction : Prop :=
  (∀ (s : State) (l : Lane) (b : LaneBody), s.body? l = some b → b.link = none →
    let g := b.gov
    let x := b.govSet
    let target : Option Nat := match b.mode with
      | .pass => none
      | .drain => some 1
      | _ => b.timing.target.map (·.frames)
    let dev : Int := match target with | none => 0 | some t => (t : Int) - b.h
    let at' (gov : GovState) : State := s.setBody l (some { b with play := { b.play with depth := b.h }, gov := gov })
    let noted : GovState := { g with dev := dev, ticked := true }
    let toMode (u : State) (m : Mode) : State := if m = b.mode then u else u.changeMode l m .governor
    let signed : Mode := if 0 < dev then .build else if dev < 0 then .trim else .onTarget
    let since := if g.ticked then satAdd 65535 g.since 1 else g.since
    let forced := x.f ≠ 0 ∧ x.f ≤ since
    let due := g.ticked = true ∧ x.s ≤ since ∧ (x.q ≤ b.play.quietRun ∨ forced)
    let named := (List.range b.fmt.channels.toNat).any fun i => b.play.fill.mask.getLsbD i
    let foreseen (r : Record) : Nat :=
      if r.covered && named then (match b.play.fill.kind with | .silence => 0 | .tone => b.play.fill.amplitude) else r.level
    let quiet := (b.dl.records[1]?).any fun r => decide (foreseen r ≤ x.threshold)
    let act : Action :=
      if ¬due then .nothing
      else if 0 < dev then .insert
      else if dev < 0 ∧ 2 ≤ b.h ∧ (forced ∨ quiet = true) then .skip
      else .nothing
    let account : GovState := match act with
      | .nothing => { noted with since := since }
      | .insert => { noted with since := 0, inserts := satAdd 65535 g.inserts 1 }
      | .skip => { noted with since := 0, skips := satAdd 65535 g.skips 1 }
    let decided (m : Mode) : State × Action := ((toMode (at' account) m).handAction l act, act)
    s.settleAction l b =
      match b.mode with
      | .pass => (at' noted, .nothing)
      | .drain =>
        if b.h ≤ 1 then
          ((at' { engaged := false, since := 0, inserts := 0, skips := 0, dev := 0, ticked := true }).changeMode l .pass
            .governor, .nothing)
        else decided .drain
      | _ =>
        if g.engaged then
          if dev = 0 then (toMode (at' { noted with engaged := false }) .onTarget, .nothing) else decided signed
        else if x.e ≤ dev.natAbs then (toMode (at' { noted with engaged := true, since := 0 }) signed, .nothing)
        else (toMode (at' noted) .onTarget, .nothing)) ∧
  ∀ (s : State) (l : Lane) (first : Bool),
    let u := if first then s.intakeTick l else s
    ∃ t, exec (.laneTick l first) s = .next t ∧ exec (.governorForce l first) s = .next (
      if (u.body? l).any fun b =>
          let since := satAdd 65535 b.gov.since 1
          let dev : Int := ((b.timing.target.map (·.frames)).getD b.h : Int) - b.h
          decide (b.link = none ∧ b.gov.ticked = true ∧ b.mode ≠ .pass ∧ b.govSet.s ≤ since ∧ b.govSet.f ≠ 0 ∧ b.govSet.f ≤ since) &&
            (if b.mode = .drain then decide (2 ≤ b.h) else b.gov.engaged && decide (dev ≠ 0))
      then t else s)

/-- How a follower settles its action, and how its leader's actions reach it (R25, R124, R125, R127, R128): a leader's action
adds 1 or −1 to the pending count, or at the bound of 8 is dropped, counted and posted; the follower pays one at a tick,
an INSERT while the count is positive, a SKIP while it is negative and H ≥ 2; at the end of its drain it drops the skips it
cannot pay, and enters PASS when it owes nothing and its leader is in PASS. -/
def Obligations.FollowersPayTheirLeadersActions : Prop :=
  (∀ (s : State) (l f : Lane) (a : Action) (b : LaneBody) (k : FollowerLink), s.body? f = some b → b.link = some k →
    a ≠ .nothing →
    let n := k.pending + if a = .insert then 1 else -1
    s.adjustPending l f a =
      if -8 ≤ n ∧ n ≤ 8 then s.setBody f (some { b with link := some { k with pending := n } })
      else ({ s with lanes := s.lanes.set f { s.lanes.get f with counters :=
          { (s.lanes.get f).counters with linkSlip := satAdd 65535 (s.lanes.get f).counters.linkSlip 1 } } } : State).post
        (some f) (.linkSlip l (a == .skip))) ∧
  (∀ (s : State) (l : Lane) (a : Action), s.handAction l a =
    if a = .nothing then s else (s.followersOf l).foldl (fun u f => u.adjustPending l f a) s) ∧
  ∀ (s : State) (f : Lane) (b : LaneBody) (k : FollowerLink), s.body? f = some b → b.link = some k → k.leader ≠ f →
    let ended := b.mode = .drain ∧ s.mode? k.leader = some .pass
    let target : Option Nat := match b.mode with
      | .pass => none
      | .drain => some 1
      | _ => b.timing.target.map (·.frames)
    let dev : Int := match target with | none => 0 | some t => (t : Int) - b.h
    let noted : GovState := { b.gov with dev := dev, ticked := true }
    let at' (m : Mode) (gov : GovState) (pending : Int) : LaneBody :=
      { b with
        mode := m, play := { b.play with depth := b.h }, gov := gov, link := some { k with pending := pending } }
    let cleared (gov : GovState) : GovState := { gov with engaged := false, since := 0, inserts := 0, skips := 0 }
    let toPass (u : State) (gov : GovState) (pending : Int) : State :=
      if ended ∧ pending = 0 then
        (u.post (some f) (.laneState (some .pass) .leader)).setBody f (some (at' .pass (cleared gov) pending))
      else u.setBody f (some (at' b.mode gov pending))
    s.settleAction f b =
      if ended ∧ b.h ≤ 1 ∧ k.pending < 0 then
        let c := (s.lanes.get f).counters
        let slipped : State := { s with lanes := s.lanes.set f { s.lanes.get f with counters :=
          { c with linkSlip := satAdd 65535 c.linkSlip k.pending.natAbs } } }
        (toPass (slipped.post (some f) (.linkSlip k.leader true)) noted 0, .nothing)
      else if 0 < k.pending then
        (toPass s { noted with inserts := satAdd 65535 b.gov.inserts 1 } (k.pending - 1), .insert)
      else if k.pending < 0 ∧ 2 ≤ b.h then
        (toPass s { noted with skips := satAdd 65535 b.gov.skips 1 } (k.pending + 1), .skip)
      else (toPass s noted k.pending, .nothing)

/-! ### The panel -/

/-- PANEL_SAMPLE and PANEL_EDGE (R16, R152 to R156, R158): a sample that agrees with the filtered level clears the count; one
that differs raises it, and the Nth in a row changes the level. An active edge fires a group that is ARMED, on each lane of
its mask that is configured and no follower, as the group's message would act with cause PANEL, and posts PANEL_EVENT; the
inactive edge of the last active member re-arms it, and a COVER group then takes PANEL from those lanes. PANEL_EDGE is the
sample that makes an edge, and no other (log 2). While lockout is on no line is sampled. -/
def Obligations.PanelSamplesFireGroups : Prop :=
  ∀ (s : State) (i : Fin 16) (closed : Bool),
    let x := s.panel.inputs.get i
    let active := closed != x.inverted
    let line (y : InLine) : State := { s with panel := { s.panel with inputs := s.panel.inputs.set i y } }
    let changes := active ≠ x.level ∧ x.length ≤ x.count + 1
    let turned := line { x with level := active, count := 0 }
    let g : GroupId := { func := x.func, mask := x.mask }
    let reached (f : State → Lane → State) (u : State) (l : Lane) : State :=
      match u.body? l with
      | none => u
      | some b => if b.link.isSome then u else f u l
    let lanes := [Lane.l1, .l2, .l3, .l4].filter fun l =>
      x.mask.getLsbD (match l with | .l1 => 0 | .l2 => 1 | .l3 => 2 | .l4 => 3)
    let action (u : State) (l : Lane) : State := match x.func with
      | .unbound => u
      | .dump => (u.dump l).1
      | .cover => u.addSource l .panel
      | .mark => (u.setMark l).1
      | .cutToMark => (u.cutToMark l).1
      | .enter => (u.enter l .panel).1
      | .exit => (u.exitGentle l .panel).1
    let heldElsewhere := ∃ j, j ≠ i ∧ (s.panel.inputs.get j).func = x.func ∧ (s.panel.inputs.get j).mask = x.mask ∧
      (s.panel.inputs.get j).level = true
    let setFired (fired : List GroupId) : State := { turned with panel := { turned.panel with fired := fired } }
    (s.panel.lockout = true →
      exec (.panelSample i closed) s = .next s ∧ exec (.panelEdge i closed) s = .next s) ∧
    (s.panel.lockout = false →
      (active = x.level → exec (.panelSample i closed) s = .next (line { x with count := 0 })) ∧
      (active ≠ x.level → ¬changes → exec (.panelSample i closed) s = .next (line { x with count := x.count + 1 })) ∧
      (¬changes → exec (.panelEdge i closed) s = .next s) ∧
      (changes → ∀ c ∈ [Instr.panelSample i closed, .panelEdge i closed],
        (x.func = .unbound ∨ (active = true ∧ g ∈ s.panel.fired) →
          exec c s = .next turned) ∧
        (x.func ≠ .unbound → active = true → g ∉ s.panel.fired → exec c s = .next
          ((lanes.foldl (reached action) (setFired (s.panel.fired ++ [g]))).post none (.panelEvent i x.func x.mask))) ∧
        (x.func ≠ .unbound → active = false → (g ∉ s.panel.fired ∨ heldElsewhere) →
          exec c s = .next turned) ∧
        (x.func ≠ .unbound → active = false → g ∈ s.panel.fired → ¬heldElsewhere →
          let rearmed := setFired (s.panel.fired.filter (· != g))
          exec c s = .next (
            if x.func = .cover then lanes.foldl (reached fun u l => u.removeSource l .panel) rearmed else rearmed)))) ∧
    ∀ (p : Port) (r : Request) (l : Lane), s.leaderOf? l = none → (s.body? l).isSome = true →
      let answered (y : State × Answer) : Host.Outcome State Fault Refusal := .next (y.1.reply p r y.2)
      let u := s.takeRequest p
      (Asks s p r 0x2A [laneByte (some l)] → exec .laneDump s = answered (u.dump l)) ∧
      (Asks s p r 0x2B [laneByte (some l)] → exec .laneMark s = answered (u.setMark l)) ∧
      (Asks s p r 0x2C [laneByte (some l)] → exec .laneCutToMark s = answered (u.cutToMark l)) ∧
      (Asks s p r 0x28 [laneByte (some l)] → exec .laneEnter s = answered (u.enter l .message)) ∧
      (Asks s p r 0x29 [laneByte (some l), 0] → exec .laneExitGentle s = answered (u.exitGentle l .message))

/-- PANEL_LOCK off, and what it leaves (R159): the lockout flag is cleared and PANEL_LOCKED becomes false; the lines' levels
and counts stay, inactive and 0 as lockout left them, and no group is FIRED; sampling resumes, so that a button held through
the unlock is taken as a fresh press: N samples later, and not before, its level is active and its group FIRED. Off while
already off changes nothing, and another value is refused BAD_ARGUMENT. -/
def Obligations.LockoutOffResumesSampling : Prop :=
  ∀ (s : State) (p : Port) (r : Request),
    (∀ v, 2 ≤ v.toNat → Asks s p r 0x0A [v] →
      exec .panelLockOff s = .next (served s p r id .badArgument [])) ∧
    (AsksEither s p r 0x0A [0] → s.link.controller ≠ p →
      exec .panelLockOff s = .next (served s p r id .notController [])) ∧
    (Asks s p r 0x0A [0] →
      let t := served s p r (fun u => { u with panel := { u.panel with lockout := false } }) .ok [0]
      exec .panelLockOff s = .next t ∧
      (∀ o : OutLine, o.func = .panelLocked → t.funcValue o = false) ∧
      (PanelKept s → s.panel.lockout = true →
        (∀ i : Fin 16, (t.panel.inputs.get i).level = false ∧ (t.panel.inputs.get i).count = 0) ∧ t.panel.fired = [] ∧
        ∀ (i : Fin 16) (n : Nat), n ≤ (t.panel.inputs.get i).length →
          let x := t.panel.inputs.get i
          ∃ u : State, runCommands (List.replicate n (.panelSample i (!x.inverted))) t = .next u ∧
            ((u.panel.inputs.get i).level = true ↔ n = x.length) ∧
            (n = x.length → x.func ≠ .unbound → { func := x.func, mask := x.mask } ∈ u.panel.fired)))

/-- PANEL_LOCK on and PANEL_BIND_IN (R153, R156 to R158, R182): lockout clears every filter and re-arms every FIRED group, each
COVER group among them taking PANEL from its lanes; on again it changes nothing. A binding replaces a line's function,
mask, polarity and filter length, brought into 1..32, clears its filter, and re-arms its old group when that was FIRED and
no other member of it is active. -/
def Obligations.LockoutAndBindingRearmGroups : Prop :=
  ∀ (s : State) (p : Port) (r : Request),
    let reached (u : State) (l : Lane) : State :=
      match u.body? l with
      | none => u
      | some b => if b.link.isSome then u else u.removeSource l .panel
    let named (g : GroupId) : List Lane := [Lane.l1, .l2, .l3, .l4].filter fun l =>
      g.mask.getLsbD (match l with | .l1 => 0 | .l2 => 1 | .l3 => 2 | .l4 => 3)
    let rearm (u : State) (g : GroupId) : State :=
      let v := { u with panel := { u.panel with fired := u.panel.fired.filter (· != g) } }
      if g.func = .cover then (named g).foldl reached v else v
    (Asks s p r 0x0A [1] → exec .panelLockOn s = .next (served s p r (fun u =>
      if u.panel.lockout then u
      else
        let quiet := u.panel.inputs.map fun x => { x with level := false, count := 0 }
        let v := u.panel.fired.foldl rearm { u with panel := { u.panel with inputs := quiet } }
        { v with panel := { v.panel with lockout := true } }) .ok [1])) ∧
    ∀ (i : Fin 16) (func : InFunc) (mask : BitVec 4) (inverted : Bool) (n : Byte),
      let length := max 1 (min n.toNat 32)
      let reply (last : Byte) : List Byte :=
        [BitVec.ofNat 8 (i.val + 1), BitVec.ofNat 8 (inFuncNo func), BitVec.ofNat 8 mask.toNat, boolByte inverted, last]
      Asks s p r 0x0B (reply n) →
        let x := s.panel.inputs.get i
        let old : GroupId := { func := x.func, mask := x.mask }
        let heldElsewhere := ∃ j, j ≠ i ∧ (s.panel.inputs.get j).func = x.func ∧ (s.panel.inputs.get j).mask = x.mask ∧
          (s.panel.inputs.get j).level = true
        let bound : InLine :=
          { func := func, mask := mask, inverted := inverted, length := length, level := false, count := 0 }
        let bind (u : State) : State := { u with panel := { u.panel with inputs := u.panel.inputs.set i bound } }
        let result : Result := if length = n.toNat then .ok else .clamped
        let body := reply (BitVec.ofNat 8 length)
        (x.func ≠ .unbound ∧ old ∈ s.panel.fired ∧ ¬heldElsewhere →
          exec .panelBindIn s = .next (served s p r (fun u => bind (rearm u old)) result body)) ∧
        (¬(x.func ≠ .unbound ∧ old ∈ s.panel.fired ∧ ¬heldElsewhere) →
          exec .panelBindIn s = .next (served s p r bind result body))

/-- PANEL_BIND_OUT, PANEL_DRIVE and PANEL_STATUS, and the level each output line drives (R160 to R162, R182): the force value
when force is enabled, else the function's value when it has one, else the manual value, inverted by the polarity; a lane
function needs a lane, and is false on an OFF lane. An argument or a view outside its listed values is refused BAD_ARGUMENT, and
the observer NOT_CONTROLLER where the controller alone may send. -/
def Obligations.OutputLinesShowTheirFunctions : Prop :=
  ∀ (s : State) (p : Port) (r : Request),
    let lane (l : Option Lane) (f : LaneBody → Bool) : Bool := (l.bind s.body?).any f
    let value (o : OutLine) : Bool := match o.func with
      | .unbound => o.manual
      | .dumpReady => lane o.lane fun b => b.mode != .pass && (b.timing.dump.ms == 0 || decide (b.timing.dump.frames ≤ b.h))
      | .inDelay => lane o.lane fun b => b.mode != .pass
      | .building => lane o.lane fun b => b.mode == .build
      | .coverOn => lane o.lane fun b => b.dl.sources.control || b.dl.sources.panel || b.dl.sources.watch || b.dl.sources.leader
      | .inputLost => lane o.lane fun b => b.intake.loss
      | .portAControls => decide (s.link.controller = .a)
      | .panelLocked => s.panel.lockout
    let level (o : OutLine) : Bool := xor o.inverted (if o.forceEnable then o.forceValue else value o)
    let bit (n : Nat) (x : Bool) : Nat := if x then n else 0
    let number (i : Fin 16) : Byte := BitVec.ofNat 8 (i.val + 1)
    let settings (i : Fin 16) (o : OutLine) : List Byte :=
      [number i, BitVec.ofNat 8 (outFuncNo o.func), laneByte o.lane, boolByte o.inverted, boolByte o.manual,
        boolByte o.forceEnable, boolByte o.forceValue, boolByte (level o)]
    let put (i : Fin 16) (o : OutLine) (u : State) : State :=
      { u with panel := { u.panel with outputs := u.panel.outputs.set i o } }
    (∀ i, s.outLevel i = level (s.panel.outputs.get i)) ∧
    (∀ body : List Byte, body.length = 4 →
      (Asks s p r 0x0C body → argumentsOk r = false → exec .panelBindOut s = .next (served s p r id .badArgument [])) ∧
      (Asks s p r 0x0D body → argumentsOk r = false → exec .panelDrive s = .next (served s p r id .badArgument [])) ∧
      (s.link.controller ≠ p →
        (AsksEither s p r 0x0C body → exec .panelBindOut s = .next (served s p r id .notController [])) ∧
        (AsksEither s p r 0x0D body → exec .panelDrive s = .next (served s p r id .notController [])))) ∧
    (∀ v : Byte, 2 ≤ v.toNat → AsksEither s p r 0x0E [v] →
      exec .panelStatus s = .next (served s p r id .badArgument [])) ∧
    (∀ (i : Fin 16) (func : OutFunc) (l : Option Lane) (inverted : Bool),
      Asks s p r 0x0C [number i, BitVec.ofNat 8 (outFuncNo func), laneByte l, boolByte inverted] →
      let o := { s.panel.outputs.get i with func := func, lane := l, inverted := inverted }
      exec .panelBindOut s = .next (
        if l = none ∧ func ∈ [OutFunc.dumpReady, .inDelay, .building, .coverOn, .inputLost] then
          served s p r id .badArgument []
        else served s p r (put i o) .ok (settings i o))) ∧
    (∀ (i : Fin 16) (manual enable force : Bool),
      Asks s p r 0x0D [number i, boolByte manual, boolByte enable, boolByte force] →
      let o := { s.panel.outputs.get i with manual := manual, forceEnable := enable, forceValue := force }
      exec .panelDrive s = .next (served s p r (put i o) .ok (settings i o))) ∧
    (PanelKept s → AsksEither s p r 0x0E [0] → exec .panelStatus s = .next (served s p r id .ok
      (0 :: boolByte s.panel.lockout :: (List.finRange 16).flatMap fun i =>
        let x := s.panel.inputs.get i
        let fired := decide (x.func ≠ .unbound ∧ { func := x.func, mask := x.mask } ∈ s.panel.fired)
        [BitVec.ofNat 8 (inFuncNo x.func + bit 8 x.inverted + bit 16 x.level + bit 32 fired),
          BitVec.ofNat 8 (x.mask.toNat + x.count % 16 * 16), BitVec.ofNat 8 (x.length + x.count / 16 * 64)]))) ∧
    (AsksEither s p r 0x0E [1] → exec .panelStatus s = .next (served s p r id .ok
      (1 :: boolByte s.panel.lockout :: (List.finRange 16).flatMap fun i =>
        let o := s.panel.outputs.get i
        [BitVec.ofNat 8 (outFuncNo o.func + (laneByte o.lane).toNat * 8 + bit 64 o.inverted),
          BitVec.ofNat 8 (bit 1 o.manual + bit 2 o.forceEnable + bit 4 o.forceValue + bit 8 (level o))])))

end
end

