-- ==== Sys2Proof/Laws/State.lean ====
section
/-! SUPPORT. The lemmas of the state's operations: for each update and each field it leaves alone, that it leaves it alone;
reading a lane or a port back after it is written; and the link's fields that a port update leaves alone. -/

namespace Sys2Proof.Machine

/-! ### One value for each lane, one for each port -/

@[simp] theorem PerLane.get_set_self {α : Type} (v : PerLane α) (l : Lane) (x : α) : (v.set l x).get l = x := by
  cases l <;> rfl

@[simp] theorem PerLane.get_set_ne {α : Type} (v : PerLane α) {k l : Lane} (x : α) (h : k ≠ l) :
    (v.set l x).get k = v.get k := by
  cases k <;> cases l <;> first | rfl | exact absurd rfl h

theorem PerLane.get_set {α : Type} (v : PerLane α) (k l : Lane) (x : α) :
    (v.set l x).get k = if k = l then x else v.get k := by
  split
  · next h => subst h; simp
  · next h => simp [h]

@[simp] theorem PerLane.set_set {α : Type} (v : PerLane α) (l : Lane) (x y : α) : (v.set l x).set l y = v.set l y := by
  cases l <;> rfl

@[simp] theorem PerLane.set_get {α : Type} (v : PerLane α) (l : Lane) : v.set l (v.get l) = v := by
  cases l <;> rfl

theorem PerLane.ext_get {α : Type} {v w : PerLane α} (h : ∀ l, v.get l = w.get l) : v = w := by
  have h1 := h .l1; have h2 := h .l2; have h3 := h .l3; have h4 := h .l4
  cases v; cases w; simp_all [PerLane.get]

@[simp] theorem PerPort.get_set_self {α : Type} (v : PerPort α) (p : Port) (x : α) : (v.set p x).get p = x := by
  cases p <;> rfl

@[simp] theorem PerPort.get_set_ne {α : Type} (v : PerPort α) {q p : Port} (x : α) (h : q ≠ p) :
    (v.set p x).get q = v.get q := by
  cases q <;> cases p <;> first | rfl | exact absurd rfl h

theorem PerPort.get_set {α : Type} (v : PerPort α) (q p : Port) (x : α) :
    (v.set p x).get q = if q = p then x else v.get q := by
  split
  · next h => subst h; simp
  · next h => simp [h]

@[simp] theorem PerPort.set_set {α : Type} (v : PerPort α) (p : Port) (x y : α) : (v.set p x).set p y = v.set p y := by
  cases p <;> rfl

@[simp] theorem PerPort.set_get {α : Type} (v : PerPort α) (p : Port) : v.set p (v.get p) = v := by
  cases p <;> rfl

theorem mem_allLanes (l : Lane) : l ∈ allLanes := by cases l <;> decide

/-! ### What each update leaves alone -/

@[simp] theorem State.setBody_pending (s : State) (l : Lane) (b : Option LaneBody) : (s.setBody l b).pending = s.pending := rfl
@[simp] theorem State.setBody_store (s : State) (l : Lane) (b : Option LaneBody) : (s.setBody l b).store = s.store := rfl
@[simp] theorem State.setBody_tick (s : State) (l : Lane) (b : Option LaneBody) : (s.setBody l b).tick = s.tick := rfl
@[simp] theorem State.setBody_panel (s : State) (l : Lane) (b : Option LaneBody) : (s.setBody l b).panel = s.panel := rfl
@[simp] theorem State.setBody_link (s : State) (l : Lane) (b : Option LaneBody) : (s.setBody l b).link = s.link := rfl

@[simp] theorem State.modBody_pending (s : State) (l : Lane) (f : LaneBody → LaneBody) : (s.modBody l f).pending = s.pending := rfl
@[simp] theorem State.modBody_store (s : State) (l : Lane) (f : LaneBody → LaneBody) : (s.modBody l f).store = s.store := rfl
@[simp] theorem State.modBody_tick (s : State) (l : Lane) (f : LaneBody → LaneBody) : (s.modBody l f).tick = s.tick := rfl
@[simp] theorem State.modBody_panel (s : State) (l : Lane) (f : LaneBody → LaneBody) : (s.modBody l f).panel = s.panel := rfl
@[simp] theorem State.modBody_link (s : State) (l : Lane) (f : LaneBody → LaneBody) : (s.modBody l f).link = s.link := rfl

@[simp] theorem State.count_pending (s : State) (l : Lane) (k : Counter) (n : Nat) : (s.count l k n).pending = s.pending := rfl
@[simp] theorem State.count_store (s : State) (l : Lane) (k : Counter) (n : Nat) : (s.count l k n).store = s.store := rfl
@[simp] theorem State.count_tick (s : State) (l : Lane) (k : Counter) (n : Nat) : (s.count l k n).tick = s.tick := rfl
@[simp] theorem State.count_panel (s : State) (l : Lane) (k : Counter) (n : Nat) : (s.count l k n).panel = s.panel := rfl
@[simp] theorem State.count_link (s : State) (l : Lane) (k : Counter) (n : Nat) : (s.count l k n).link = s.link := rfl

@[simp] theorem State.clearCounters_pending (s : State) (l : Lane) : (s.clearCounters l).pending = s.pending := rfl
@[simp] theorem State.clearCounters_store (s : State) (l : Lane) : (s.clearCounters l).store = s.store := rfl
@[simp] theorem State.clearCounters_tick (s : State) (l : Lane) : (s.clearCounters l).tick = s.tick := rfl
@[simp] theorem State.clearCounters_panel (s : State) (l : Lane) : (s.clearCounters l).panel = s.panel := rfl
@[simp] theorem State.clearCounters_link (s : State) (l : Lane) : (s.clearCounters l).link = s.link := rfl

@[simp] theorem State.postOn_pending (s : State) (p : Port) (l : Option Lane) (d : Detail) : (s.postOn p l d).pending = s.pending := rfl
@[simp] theorem State.postOn_lanes (s : State) (p : Port) (l : Option Lane) (d : Detail) : (s.postOn p l d).lanes = s.lanes := rfl
@[simp] theorem State.postOn_store (s : State) (p : Port) (l : Option Lane) (d : Detail) : (s.postOn p l d).store = s.store := rfl
@[simp] theorem State.postOn_tick (s : State) (p : Port) (l : Option Lane) (d : Detail) : (s.postOn p l d).tick = s.tick := rfl
@[simp] theorem State.postOn_panel (s : State) (p : Port) (l : Option Lane) (d : Detail) : (s.postOn p l d).panel = s.panel := rfl

@[simp] theorem State.post_pending (s : State) (l : Option Lane) (d : Detail) : (s.post l d).pending = s.pending := rfl
@[simp] theorem State.post_lanes (s : State) (l : Option Lane) (d : Detail) : (s.post l d).lanes = s.lanes := rfl
@[simp] theorem State.post_store (s : State) (l : Option Lane) (d : Detail) : (s.post l d).store = s.store := rfl
@[simp] theorem State.post_tick (s : State) (l : Option Lane) (d : Detail) : (s.post l d).tick = s.tick := rfl
@[simp] theorem State.post_panel (s : State) (l : Option Lane) (d : Detail) : (s.post l d).panel = s.panel := rfl

@[simp] theorem State.freePages_pending (s : State) (l : Lane) (ps : List PageNo) : (s.freePages l ps).pending = s.pending := rfl
@[simp] theorem State.freePages_lanes (s : State) (l : Lane) (ps : List PageNo) : (s.freePages l ps).lanes = s.lanes := rfl
@[simp] theorem State.freePages_tick (s : State) (l : Lane) (ps : List PageNo) : (s.freePages l ps).tick = s.tick := rfl
@[simp] theorem State.freePages_panel (s : State) (l : Lane) (ps : List PageNo) : (s.freePages l ps).panel = s.panel := rfl
@[simp] theorem State.freePages_link (s : State) (l : Lane) (ps : List PageNo) : (s.freePages l ps).link = s.link := rfl

@[simp] theorem State.setBudget_pending (s : State) (l : Lane) (n : Nat) : (s.setBudget l n).pending = s.pending := rfl
@[simp] theorem State.setBudget_lanes (s : State) (l : Lane) (n : Nat) : (s.setBudget l n).lanes = s.lanes := rfl
@[simp] theorem State.setBudget_tick (s : State) (l : Lane) (n : Nat) : (s.setBudget l n).tick = s.tick := rfl
@[simp] theorem State.setBudget_panel (s : State) (l : Lane) (n : Nat) : (s.setBudget l n).panel = s.panel := rfl
@[simp] theorem State.setBudget_link (s : State) (l : Lane) (n : Nat) : (s.setBudget l n).link = s.link := rfl

@[simp] theorem State.modPort_pending (s : State) (p : Port) (f : PortState → PortState) : (s.modPort p f).pending = s.pending := rfl
@[simp] theorem State.modPort_lanes (s : State) (p : Port) (f : PortState → PortState) : (s.modPort p f).lanes = s.lanes := rfl
@[simp] theorem State.modPort_store (s : State) (p : Port) (f : PortState → PortState) : (s.modPort p f).store = s.store := rfl
@[simp] theorem State.modPort_tick (s : State) (p : Port) (f : PortState → PortState) : (s.modPort p f).tick = s.tick := rfl
@[simp] theorem State.modPort_panel (s : State) (p : Port) (f : PortState → PortState) : (s.modPort p f).panel = s.panel := rfl

@[simp] theorem State.takeRequest_pending (s : State) (p : Port) : (s.takeRequest p).pending = s.pending := rfl
@[simp] theorem State.takeRequest_lanes (s : State) (p : Port) : (s.takeRequest p).lanes = s.lanes := rfl
@[simp] theorem State.takeRequest_store (s : State) (p : Port) : (s.takeRequest p).store = s.store := rfl
@[simp] theorem State.takeRequest_tick (s : State) (p : Port) : (s.takeRequest p).tick = s.tick := rfl
@[simp] theorem State.takeRequest_panel (s : State) (p : Port) : (s.takeRequest p).panel = s.panel := rfl

@[simp] theorem State.reply_pending (s : State) (p : Port) (r : Request) (a : Answer) : (s.reply p r a).pending = s.pending := rfl
@[simp] theorem State.reply_lanes (s : State) (p : Port) (r : Request) (a : Answer) : (s.reply p r a).lanes = s.lanes := rfl
@[simp] theorem State.reply_store (s : State) (p : Port) (r : Request) (a : Answer) : (s.reply p r a).store = s.store := rfl
@[simp] theorem State.reply_tick (s : State) (p : Port) (r : Request) (a : Answer) : (s.reply p r a).tick = s.tick := rfl
@[simp] theorem State.reply_panel (s : State) (p : Port) (r : Request) (a : Answer) : (s.reply p r a).panel = s.panel := rfl

@[simp] theorem State.putMode_pending (s : State) (l : Lane) (m : Mode) (c : Cause) : (s.putMode l m c).pending = s.pending := rfl
@[simp] theorem State.putMode_store (s : State) (l : Lane) (m : Mode) (c : Cause) : (s.putMode l m c).store = s.store := rfl
@[simp] theorem State.putMode_tick (s : State) (l : Lane) (m : Mode) (c : Cause) : (s.putMode l m c).tick = s.tick := rfl
@[simp] theorem State.putMode_panel (s : State) (l : Lane) (m : Mode) (c : Cause) : (s.putMode l m c).panel = s.panel := rfl

@[simp] theorem State.setInput_pending (s : State) (i : Fin 16) (x : InLine) : (s.setInput i x).pending = s.pending := rfl
@[simp] theorem State.setInput_lanes (s : State) (i : Fin 16) (x : InLine) : (s.setInput i x).lanes = s.lanes := rfl
@[simp] theorem State.setInput_store (s : State) (i : Fin 16) (x : InLine) : (s.setInput i x).store = s.store := rfl
@[simp] theorem State.setInput_tick (s : State) (i : Fin 16) (x : InLine) : (s.setInput i x).tick = s.tick := rfl
@[simp] theorem State.setInput_link (s : State) (i : Fin 16) (x : InLine) : (s.setInput i x).link = s.link := rfl

@[simp] theorem State.setOutput_pending (s : State) (i : Fin 16) (x : OutLine) : (s.setOutput i x).pending = s.pending := rfl
@[simp] theorem State.setOutput_lanes (s : State) (i : Fin 16) (x : OutLine) : (s.setOutput i x).lanes = s.lanes := rfl
@[simp] theorem State.setOutput_store (s : State) (i : Fin 16) (x : OutLine) : (s.setOutput i x).store = s.store := rfl
@[simp] theorem State.setOutput_tick (s : State) (i : Fin 16) (x : OutLine) : (s.setOutput i x).tick = s.tick := rfl
@[simp] theorem State.setOutput_link (s : State) (i : Fin 16) (x : OutLine) : (s.setOutput i x).link = s.link := rfl

@[simp] theorem State.disarm_pending (s : State) (g : GroupId) : (s.disarm g).pending = s.pending := rfl
@[simp] theorem State.disarm_lanes (s : State) (g : GroupId) : (s.disarm g).lanes = s.lanes := rfl
@[simp] theorem State.disarm_store (s : State) (g : GroupId) : (s.disarm g).store = s.store := rfl
@[simp] theorem State.disarm_tick (s : State) (g : GroupId) : (s.disarm g).tick = s.tick := rfl
@[simp] theorem State.disarm_link (s : State) (g : GroupId) : (s.disarm g).link = s.link := rfl

/-! ### Reading a lane after an update -/

@[simp] theorem State.body?_setBody_self (s : State) (l : Lane) (b : Option LaneBody) : (s.setBody l b).body? l = b := by
  cases l <;> rfl

@[simp] theorem State.body?_setBody_ne (s : State) {k l : Lane} (b : Option LaneBody) (h : k ≠ l) :
    (s.setBody l b).body? k = s.body? k := by
  cases k <;> cases l <;> first | rfl | exact absurd rfl h

@[simp] theorem State.body?_modBody_self (s : State) (l : Lane) (f : LaneBody → LaneBody) :
    (s.modBody l f).body? l = (s.body? l).map f := by
  cases l <;> rfl

@[simp] theorem State.body?_modBody_ne (s : State) {k l : Lane} (f : LaneBody → LaneBody) (h : k ≠ l) :
    (s.modBody l f).body? k = s.body? k := by
  cases k <;> cases l <;> first | rfl | exact absurd rfl h

@[simp] theorem State.counters_setBody (s : State) (k l : Lane) (b : Option LaneBody) :
    ((s.setBody l b).lanes.get k).counters = (s.lanes.get k).counters := by
  cases k <;> cases l <;> rfl

@[simp] theorem State.counters_modBody (s : State) (k l : Lane) (f : LaneBody → LaneBody) :
    ((s.modBody l f).lanes.get k).counters = (s.lanes.get k).counters := by
  cases k <;> cases l <;> rfl

@[simp] theorem State.body?_count (s : State) (k l : Lane) (c : Counter) (n : Nat) :
    (s.count l c n).body? k = s.body? k := by
  cases k <;> cases l <;> rfl

@[simp] theorem State.counters_count_self (s : State) (l : Lane) (c : Counter) (n : Nat) :
    ((s.count l c n).lanes.get l).counters = (s.lanes.get l).counters.add c n := by
  cases l <;> rfl

@[simp] theorem State.lanes_count_ne (s : State) {k l : Lane} (c : Counter) (n : Nat) (h : k ≠ l) :
    (s.count l c n).lanes.get k = s.lanes.get k := by
  cases k <;> cases l <;> first | rfl | exact absurd rfl h

@[simp] theorem State.lanes_setBody_ne (s : State) {k l : Lane} (b : Option LaneBody) (h : k ≠ l) :
    (s.setBody l b).lanes.get k = s.lanes.get k := by
  cases k <;> cases l <;> first | rfl | exact absurd rfl h

@[simp] theorem State.body?_clearCounters (s : State) (k l : Lane) : (s.clearCounters l).body? k = s.body? k := by
  cases k <;> cases l <;> rfl

@[simp] theorem State.body?_postOn (s : State) (p : Port) (l : Option Lane) (d : Detail) (k : Lane) : (s.postOn p l d).body? k = s.body? k := rfl
@[simp] theorem State.body?_post (s : State) (l : Option Lane) (d : Detail) (k : Lane) : (s.post l d).body? k = s.body? k := rfl
@[simp] theorem State.body?_freePages (s : State) (l : Lane) (ps : List PageNo) (k : Lane) : (s.freePages l ps).body? k = s.body? k := rfl
@[simp] theorem State.body?_setBudget (s : State) (l : Lane) (n : Nat) (k : Lane) : (s.setBudget l n).body? k = s.body? k := rfl
@[simp] theorem State.body?_modPort (s : State) (p : Port) (f : PortState → PortState) (k : Lane) : (s.modPort p f).body? k = s.body? k := rfl
@[simp] theorem State.body?_takeRequest (s : State) (p : Port) (k : Lane) : (s.takeRequest p).body? k = s.body? k := rfl
@[simp] theorem State.body?_reply (s : State) (p : Port) (r : Request) (a : Answer) (k : Lane) : (s.reply p r a).body? k = s.body? k := rfl
@[simp] theorem State.body?_setInput (s : State) (i : Fin 16) (x : InLine) (k : Lane) : (s.setInput i x).body? k = s.body? k := rfl
@[simp] theorem State.body?_setOutput (s : State) (i : Fin 16) (x : OutLine) (k : Lane) : (s.setOutput i x).body? k = s.body? k := rfl
@[simp] theorem State.body?_disarm (s : State) (g : GroupId) (k : Lane) : (s.disarm g).body? k = s.body? k := rfl

/-- A lane's body set to itself changes nothing. -/
theorem State.setBody_self (s : State) (l : Lane) : s.setBody l (s.body? l) = s := by
  cases l <;> rfl

theorem State.modBody_of_none (s : State) (l : Lane) (f : LaneBody → LaneBody) (h : s.body? l = none) :
    s.modBody l f = s := by
  unfold State.modBody
  rw [h, Option.map_none, ← h, State.setBody_self]

theorem State.modBody_of_some (s : State) (l : Lane) (f : LaneBody → LaneBody) {b : LaneBody} (h : s.body? l = some b) :
    s.modBody l f = s.setBody l (some (f b)) := by
  unfold State.modBody
  rw [h, Option.map_some]

/-! ### The link's fields -/

@[simp] theorem State.postOn_link_controller (s : State) (p : Port) (l : Option Lane) (d : Detail) : (s.postOn p l d).link.controller = s.link.controller := rfl
@[simp] theorem State.postOn_link_takeoverAllowed (s : State) (p : Port) (l : Option Lane) (d : Detail) : (s.postOn p l d).link.takeoverAllowed = s.link.takeoverAllowed := rfl
@[simp] theorem State.postOn_link_lastServed (s : State) (p : Port) (l : Option Lane) (d : Detail) : (s.postOn p l d).link.lastServed = s.link.lastServed := rfl
@[simp] theorem State.postOn_link_restartPending (s : State) (p : Port) (l : Option Lane) (d : Detail) : (s.postOn p l d).link.restartPending = s.link.restartPending := rfl
@[simp] theorem State.postOn_link_lineRate (s : State) (p : Port) (l : Option Lane) (d : Detail) : (s.postOn p l d).link.lineRate = s.link.lineRate := rfl
@[simp] theorem State.post_link_controller (s : State) (l : Option Lane) (d : Detail) : (s.post l d).link.controller = s.link.controller := rfl
@[simp] theorem State.post_link_takeoverAllowed (s : State) (l : Option Lane) (d : Detail) : (s.post l d).link.takeoverAllowed = s.link.takeoverAllowed := rfl
@[simp] theorem State.post_link_lastServed (s : State) (l : Option Lane) (d : Detail) : (s.post l d).link.lastServed = s.link.lastServed := rfl
@[simp] theorem State.post_link_restartPending (s : State) (l : Option Lane) (d : Detail) : (s.post l d).link.restartPending = s.link.restartPending := rfl
@[simp] theorem State.post_link_lineRate (s : State) (l : Option Lane) (d : Detail) : (s.post l d).link.lineRate = s.link.lineRate := rfl
@[simp] theorem State.modPort_link_controller (s : State) (p : Port) (f : PortState → PortState) : (s.modPort p f).link.controller = s.link.controller := rfl
@[simp] theorem State.modPort_link_takeoverAllowed (s : State) (p : Port) (f : PortState → PortState) : (s.modPort p f).link.takeoverAllowed = s.link.takeoverAllowed := rfl
@[simp] theorem State.modPort_link_lastServed (s : State) (p : Port) (f : PortState → PortState) : (s.modPort p f).link.lastServed = s.link.lastServed := rfl
@[simp] theorem State.modPort_link_restartPending (s : State) (p : Port) (f : PortState → PortState) : (s.modPort p f).link.restartPending = s.link.restartPending := rfl
@[simp] theorem State.modPort_link_lineRate (s : State) (p : Port) (f : PortState → PortState) : (s.modPort p f).link.lineRate = s.link.lineRate := rfl
@[simp] theorem State.reply_link_controller (s : State) (p : Port) (r : Request) (a : Answer) : (s.reply p r a).link.controller = s.link.controller := rfl
@[simp] theorem State.reply_link_takeoverAllowed (s : State) (p : Port) (r : Request) (a : Answer) : (s.reply p r a).link.takeoverAllowed = s.link.takeoverAllowed := rfl
@[simp] theorem State.reply_link_lastServed (s : State) (p : Port) (r : Request) (a : Answer) : (s.reply p r a).link.lastServed = s.link.lastServed := rfl
@[simp] theorem State.reply_link_restartPending (s : State) (p : Port) (r : Request) (a : Answer) : (s.reply p r a).link.restartPending = s.link.restartPending := rfl
@[simp] theorem State.reply_link_lineRate (s : State) (p : Port) (r : Request) (a : Answer) : (s.reply p r a).link.lineRate = s.link.lineRate := rfl
@[simp] theorem State.takeRequest_link_controller (s : State) (p : Port) : (s.takeRequest p).link.controller = s.link.controller := rfl
@[simp] theorem State.takeRequest_link_takeoverAllowed (s : State) (p : Port) : (s.takeRequest p).link.takeoverAllowed = s.link.takeoverAllowed := rfl
@[simp] theorem State.takeRequest_link_restartPending (s : State) (p : Port) : (s.takeRequest p).link.restartPending = s.link.restartPending := rfl
@[simp] theorem State.takeRequest_link_lineRate (s : State) (p : Port) : (s.takeRequest p).link.lineRate = s.link.lineRate := rfl
@[simp] theorem State.takeRequest_link_lastServed (s : State) (p : Port) : (s.takeRequest p).link.lastServed = p := rfl

@[simp] theorem State.ports_modPort_self (s : State) (p : Port) (f : PortState → PortState) :
    (s.modPort p f).link.ports.get p = f (s.link.ports.get p) := by
  cases p <;> rfl

@[simp] theorem State.ports_modPort_ne (s : State) {q p : Port} (f : PortState → PortState) (h : q ≠ p) :
    (s.modPort p f).link.ports.get q = s.link.ports.get q := by
  cases q <;> cases p <;> first | rfl | exact absurd rfl h

/-- A posting reaches both ports (R175). -/
@[simp] theorem State.ports_post (s : State) (l : Option Lane) (d : Detail) (p : Port) :
    (s.post l d).link.ports.get p = (s.link.ports.get p).post l d := by
  cases p <;> rfl

/-! ### Folds -/

/-- A fold of steps that each keep an observation keeps it. -/
theorem foldl_keeps {α β σ : Type} (f : σ → α → σ) (obs : σ → β) (h : ∀ s a, obs (f s a) = obs s) (xs : List α) (s : σ) :
    obs (xs.foldl f s) = obs s := by
  induction xs generalizing s with
  | nil => rfl
  | cons x xs ih => exact (ih (f s x)).trans (h s x)

/-- A fold of steps that each keep a property keeps it. -/
theorem foldl_invariant {α σ : Type} (f : σ → α → σ) (P : σ → Prop) (h : ∀ s a, P s → P (f s a)) (xs : List α) (s : σ)
    (hs : P s) : P (xs.foldl f s) := by
  induction xs generalizing s with
  | nil => exact hs
  | cons x xs ih => exact ih _ (h _ _ hs)

end Sys2Proof.Machine
end

