-- ==== Sys2Proof/Laws/Executor.lean ====
section
/-! SUPPORT. What the executor does with the request it takes (R169, R170), said once for each outcome of its checks; what a
pending set does with a posting (R175). -/

namespace Sys2Proof.Machine

/-! ### The executor -/

/-- A row whose request is not the next one changes nothing (log 1). -/
theorem State.execute_not_row {s : State} {isRow : Request → Bool} {lengthOk : Nat → Bool}
    {permitted : State → Port → List Byte → Bool} {h : Handler}
    (hn : ∀ p r, s.nextRequest = some (p, r) → isRow r = false) : s.execute isRow lengthOk permitted h = s := by
  unfold State.execute
  cases hr : s.nextRequest with
  | none => rfl
  | some pr => obtain ⟨p, r⟩ := pr; simp [hn p r hr]

/-- A body of a length not listed is answered BAD_LENGTH (R170, check 2). -/
theorem State.execute_bad_length {s : State} {isRow : Request → Bool} {lengthOk : Nat → Bool}
    {permitted : State → Port → List Byte → Bool} {h : Handler} {p : Port} {r : Request}
    (hs : s.nextRequest = some (p, r)) (hr : isRow r = true) (hl : lengthOk r.body.length = false) :
    s.execute isRow lengthOk permitted h = (s.takeRequest p).reply p r (.refuse .badLength) := by
  simp [State.execute, hs, hr, hl]

/-- A request that the port's role does not permit is answered NOT_CONTROLLER (R170, check 3). -/
theorem State.execute_not_permitted {s : State} {isRow : Request → Bool} {lengthOk : Nat → Bool}
    {permitted : State → Port → List Byte → Bool} {h : Handler} {p : Port} {r : Request}
    (hs : s.nextRequest = some (p, r)) (hr : isRow r = true) (hl : lengthOk r.body.length = true)
    (hp : permitted (s.takeRequest p) p r.body = false) :
    s.execute isRow lengthOk permitted h = (s.takeRequest p).reply p r (.refuse .notController) := by
  simp [State.execute, hs, hr, hl, hp]

/-- A request that passes those checks is handled by its message's rule (R170, check 4). -/
theorem State.execute_handled {s : State} {isRow : Request → Bool} {lengthOk : Nat → Bool}
    {permitted : State → Port → List Byte → Bool} {h : Handler} {p : Port} {r : Request}
    (hs : s.nextRequest = some (p, r)) (hr : isRow r = true) (hl : lengthOk r.body.length = true)
    (hp : permitted (s.takeRequest p) p r.body = true) :
    s.execute isRow lengthOk permitted h =
      (h (s.takeRequest p) p r.body).1.reply p r (h (s.takeRequest p) p r.body).2 := by
  simp [State.execute, hs, hr, hl, hp]

/-- The handler of a controller's message, in the terms of `served`. -/
theorem State.execute_served {s : State} {isRow : Request → Bool} {lengthOk : Nat → Bool}
    {permitted : State → Port → List Byte → Bool} {h : Handler} {p : Port} {r : Request} {effect : State → State}
    {result : Result} {body : List Byte}
    (hs : s.nextRequest = some (p, r)) (hr : isRow r = true) (hl : lengthOk r.body.length = true)
    (hp : permitted (s.takeRequest p) p r.body = true)
    (hh : h (s.takeRequest p) p r.body = (effect (s.takeRequest p), { result := result, body := body })) :
    s.execute isRow lengthOk permitted h = served s p r effect result body := by
  rw [State.execute_handled hs hr hl hp, hh]; rfl

@[simp] theorem State.controls_takeRequest (s : State) (p q : Port) : (s.takeRequest q).controls p = s.controls p := rfl

theorem State.controls_iff (s : State) (p : Port) : s.controls p = true ↔ s.link.controller = p := by
  simp [State.controls]

/-- Every byte that names a lane names that lane. -/
@[simp] theorem laneOf_laneByte (l : Lane) : laneOf (laneByte (some l)) = some l := by cases l <;> decide

@[simp] theorem boolOf_boolByte (x : Bool) : boolOf (boolByte x) = some x := by cases x <;> decide

@[simp] theorem portOf_portByte (p : Port) : portOf (portByte p) = some p := by cases p <;> decide

/-! ### Pending sets -/

theorem mem_insertNotice {e x : NoticeEntry} {m : List NoticeEntry} (h : x ∈ insertNotice e m) :
    x = e ∨ x ∈ m ∨ ∃ y ∈ m, y.key = e.key ∧ x = { y with detail := e.detail, count := satAdd 255 y.count 1 } := by
  induction m with
  | nil => simp only [insertNotice, List.mem_singleton] at h; exact .inl h
  | cons y t ih =>
    unfold insertNotice at h
    split at h
    · rcases List.mem_cons.1 h with h | h
      · exact .inl h
      · exact .inr (.inl h)
    · split at h
      · next heq =>
        rcases List.mem_cons.1 h with h | h
        · exact .inr (.inr ⟨y, List.mem_cons_self, heq.symm, h⟩)
        · exact .inr (.inl (List.mem_cons_of_mem _ h))
      · rcases List.mem_cons.1 h with h | h
        · exact .inr (.inl (h ▸ List.mem_cons_self))
        · rcases ih h with h | h | ⟨z, hz, h⟩
          · exact .inl h
          · exact .inr (.inl (List.mem_cons_of_mem _ h))
          · exact .inr (.inr ⟨z, List.mem_cons_of_mem _ hz, h⟩)

/-- A saturating count stays within its cap. -/
theorem satAdd_le {cap x n : Nat} (h : x ≤ cap) : satAdd cap x n ≤ cap := by unfold satAdd; omega

theorem le_satAdd (cap x n : Nat) : x ≤ satAdd cap x n := by unfold satAdd; omega

/-! ### Packet lists -/

/-- A list joined at its tail holds at most 32 packets when it did before, and no packet is lost but those dropped. -/
theorem joinTail_spec {list offered : List Packet} (h : list.length ≤ 32) :
    (joinTail list offered).1.length ≤ 32 ∧
    (joinTail list offered).1 ++ (joinTail list offered).2 = list ++ offered := by
  refine ⟨?_, by simp [joinTail, List.append_assoc]⟩
  simp only [joinTail, packetCap, List.length_append, List.length_take]
  omega

/-- A list joined at its front holds at most 32 packets when it did before, and keeps what it held. -/
theorem joinFront_spec {list batch : List Packet} (h : list.length ≤ 32) :
    (joinFront list batch).1.length ≤ 32 ∧
    ∃ kept, (joinFront list batch).1 = kept ++ list ∧ kept ++ (joinFront list batch).2 = batch := by
  refine ⟨?_, batch.take (packetCap - list.length), rfl, by simp [joinFront]⟩
  simp only [joinFront, packetCap, List.length_append, List.length_take]
  omega

end Sys2Proof.Machine
end

