-- ==== Sys2Proof/Laws/Lanes.lean ====
section
/-! SUPPORT. What an operation over a leader's followers can do, said once; which lanes those are; what packets dropped at a
list do to the state; what a governor's decision can be. -/

namespace Sys2Proof.Machine

/-! ### Followers -/

/-- A lane follows `l` exactly when its link names `l`. -/
theorem mem_followersOf {s : State} {f l : Lane} :
    f ∈ s.followersOf l ↔ ∃ b k, s.body? f = some b ∧ b.link = some k ∧ k.leader = l := by
  simp only [State.followersOf, List.mem_filter, mem_allLanes, true_and, beq_iff_eq, State.leaderOf?]
  cases s.body? f with
  | none => simp
  | some b => cases hb : b.link <;> simp [hb]

/-- A leader's followers are named once each. -/
theorem followersOf_nodup (s : State) (l : Lane) : (s.followersOf l).Nodup := List.Nodup.filter _ (by decide)

/-- A lane that is no follower does not follow itself. -/
theorem not_mem_followersOf_self {s : State} {l : Lane} {b : LaneBody} (hb : s.body? l = some b) (hl : b.link = none) :
    l ∉ s.followersOf l := by
  rw [mem_followersOf]
  rintro ⟨c, k, hc, hk, -⟩
  rw [hb] at hc
  cases hc
  simp [hl] at hk

/-- The followers of a lane depend on the links alone. -/
theorem followersOf_congr {s t : State} (h : ∀ f, t.leaderOf? f = s.leaderOf? f) (l : Lane) :
    t.followersOf l = s.followersOf l := by simp [State.followersOf, h]

@[simp] theorem State.followersOf_post (s : State) (x : Option Lane) (d : Detail) (l : Lane) :
    (s.post x d).followersOf l = s.followersOf l := rfl

@[simp] theorem State.followersOf_takeRequest (s : State) (p : Port) (l : Lane) :
    (s.takeRequest p).followersOf l = s.followersOf l := rfl

@[simp] theorem State.mode?_takeRequest (s : State) (p : Port) (l : Lane) : (s.takeRequest p).mode? l = s.mode? l := rfl

/-- An operation taken on lanes named once each, changing on each its own body by `g`, changes exactly those bodies. -/
theorem body?_foldl_lanes (op : State → Lane → State) (g : Lane → LaneBody → LaneBody) {xs : List Lane} (hd : xs.Nodup)
    (s : State) (h : ∀ u f k, f ∈ xs → u.body? f = s.body? f →
      (op u f).body? k = if k = f then (s.body? f).map (g f) else u.body? k) (k : Lane) :
    (xs.foldl op s).body? k = if k ∈ xs then (s.body? k).map (g k) else s.body? k := by
  suffices H : ∀ (ys : List Lane) (u : State), (∀ y ∈ ys, y ∈ xs) → ys.Nodup → (∀ y ∈ ys, u.body? y = s.body? y) →
      (ys.foldl op u).body? k = if k ∈ ys then (s.body? k).map (g k) else u.body? k from
    H xs s (fun _ h => h) hd fun _ _ => rfl
  intro ys
  induction ys with
  | nil => intros; simp
  | cons y ys ih =>
    intro u hm hn hu
    obtain ⟨hy, hn⟩ := List.nodup_cons.mp hn
    have step (j : Lane) := h u y j (hm y (by simp)) (hu y (by simp))
    rw [List.foldl_cons, ih (op u y) (fun z hz => hm z (by simp [hz])) hn]
    · by_cases hk : k = y
      · subst hk; simp [hy, step]
      · simp [hk, step]
    · intro z hz
      have : z ≠ y := fun e => hy (e ▸ hz)
      simp [step, this, hu z (by simp [hz])]

/-! ### Reports -/

@[simp] theorem State.postAll_lanes (s : State) (xs : List (Option Lane × Detail)) : (s.postAll xs).lanes = s.lanes :=
  foldl_keeps (fun (u : State) (x : Option Lane × Detail) => u.post x.1 x.2) State.lanes (fun _ _ => rfl) xs s

@[simp] theorem State.postAll_store (s : State) (xs : List (Option Lane × Detail)) : (s.postAll xs).store = s.store :=
  foldl_keeps (fun (u : State) (x : Option Lane × Detail) => u.post x.1 x.2) State.store (fun _ _ => rfl) xs s

@[simp] theorem State.postAll_panel (s : State) (xs : List (Option Lane × Detail)) : (s.postAll xs).panel = s.panel :=
  foldl_keeps (fun (u : State) (x : Option Lane × Detail) => u.post x.1 x.2) State.panel (fun _ _ => rfl) xs s

@[simp] theorem State.postAll_tick (s : State) (xs : List (Option Lane × Detail)) : (s.postAll xs).tick = s.tick :=
  foldl_keeps (fun (u : State) (x : Option Lane × Detail) => u.post x.1 x.2) State.tick (fun _ _ => rfl) xs s

@[simp] theorem State.postAll_pending (s : State) (xs : List (Option Lane × Detail)) : (s.postAll xs).pending = s.pending :=
  foldl_keeps (fun (u : State) (x : Option Lane × Detail) => u.post x.1 x.2) State.pending (fun _ _ => rfl) xs s

theorem State.postAll_append (s : State) (xs ys : List (Option Lane × Detail)) :
    s.postAll (xs ++ ys) = (s.postAll xs).postAll ys := List.foldl_append

/-- A posting is a change of the Control Link Unit that depends on it alone. -/
theorem State.post_link_congr {s t : State} (h : s.link = t.link) (x : Option Lane) (d : Detail) :
    (s.post x d).link = (t.post x d).link := by simp [State.post, State.postOn, h]

/-- So are postings one after another. -/
theorem State.postAll_link_congr {s t : State} (h : s.link = t.link) (xs : List (Option Lane × Detail)) :
    (s.postAll xs).link = (t.postAll xs).link := by
  induction xs generalizing s t with
  | nil => exact h
  | cons x xs ih => exact ih (State.post_link_congr h x.1 x.2)

/-- A count raised by 0 stays. -/
@[simp] theorem satAdd_zero (cap x : Nat) : satAdd cap x 0 = x := by simp [satAdd]

/-- What packets dropped at a list do to the state (R80, R85): they are counted, and CARRY_LOST is posted once where one of
them was not LIVE. -/
theorem State.dropPackets_spec (s : State) (l : Lane) (departure : Bool) (dropped : List Packet) :
    s.dropPackets l departure dropped =
      { s with
        lanes := s.lanes.set l { s.lanes.get l with counters := (s.lanes.get l).counters.lose dropped }
        link := (s.postAll (lostPosts l departure dropped)).link } := by
  unfold State.dropPackets lostPosts LaneCounters.lose
  generalize dropped.filter (·.source == .live) = live
  generalize dropped.filter (·.source != .live) = lost
  cases lost using List.reverseRecOn <;> cases live <;>
    simp [State.count, LaneCounters.add, State.postAll, State.post, State.postOn]
  exact congrArg (fun v => { s with lanes := v }) (PerLane.set_get s.lanes l).symm

/-! ### The governor's decision -/

/-- A lane's first tick after a configure decides nothing and leaves the governor as it was (R115; log 32). -/
theorem reachDecision_first_tick {b : LaneBody} (h : b.gov.ticked = false) (g : GovState) (m : Mode) (dev : Int) :
    b.reachDecision g m dev = { gov := g, mode := m, action := .nothing } := by
  simp [LaneBody.reachDecision, h]

/-- A decision keeps the lane's engagement and its deviation, and its since is the raised one, or 0 after an action. -/
theorem reachDecision_ticked {b : LaneBody} (h : b.gov.ticked = true) (g : GovState) (m : Mode) (dev : Int) :
    let d := b.reachDecision g m dev
    d.mode = m ∧ d.gov.engaged = g.engaged ∧ d.gov.dev = g.dev ∧ d.gov.ticked = g.ticked ∧
    d.gov.since = (if d.action = .nothing then satAdd 65535 g.since 1 else 0) ∧
    (d.action ≠ .nothing → b.actionDue (satAdd 65535 g.since 1) = true) := by
  simp only [LaneBody.reachDecision, h, Bool.not_true, Bool.false_eq_true, if_false]
  split
  · next due => cases b.dueAction dev (satAdd 65535 g.since 1) <;> simp [GovState.acts, due]
  · simp [GovState.acts]

end Sys2Proof.Machine
end

