-- ==== Sys2Proof/Laws/Store.lean ====
section
/-! SUPPORT. The free page list as a list (R29, R32), the in-use counts (R31), the error map's canonical form (R35, R40) and
what reading pages leaves alone (R36). -/

namespace Sys2Proof.Machine

/-! ### The free page list -/

theorem freeCount_eq_length (runs : List Run) : freeCount runs = (freeList runs).length := by
  induction runs with
  | nil => rfl
  | cons r rest ih => simp [freeCount, freeList, ih]

/-- A freed page joins the tail (R29). -/
theorem freeList_pushPage (p : PageNo) (runs : List Run) : freeList (pushPage p runs) = freeList runs ++ [p] := by
  induction runs with
  | nil => rfl
  | cons r rest ih =>
    cases rest with
    | nil =>
      unfold pushPage
      split
      · next h => simp [freeList, List.range'_1_concat, ← h]; omega
      · simp [freeList]
    | cons r' rest => simp [pushPage, freeList, ih]

/-- Freed pages join the tail one after another (R29). -/
theorem freeList_foldl_pushPage (pages : List PageNo) (runs : List Run) :
    freeList (pages.foldl (fun runs p => pushPage p runs) runs) = freeList runs ++ pages := by
  induction pages generalizing runs with
  | nil => simp
  | cons p ps ih => simp [ih, freeList_pushPage]

/-- The head of the list is taken (R29). -/
theorem freeList_popPage {runs rest : List Run} {p : PageNo} (h : popPage runs = some (p, rest)) :
    freeList runs = p :: freeList rest := by
  cases runs with
  | nil => simp [popPage] at h
  | cons r t =>
    obtain ⟨first, more⟩ := r
    cases more with
    | zero =>
      simp only [popPage, Option.some.injEq, Prod.mk.injEq] at h
      obtain ⟨rfl, rfl⟩ := h
      simp [freeList]
    | succ m =>
      simp only [popPage, Option.some.injEq, Prod.mk.injEq] at h
      obtain ⟨rfl, rfl⟩ := h
      simp [freeList, List.range'_succ]

theorem popPage_none {runs : List Run} (h : popPage runs = none) : freeList runs = [] := by
  cases runs with
  | nil => rfl
  | cons r t =>
    obtain ⟨first, more⟩ := r
    cases more <;> simp [popPage] at h

/-- n pages are taken from the head, in order (R32). -/
theorem freeList_popPages {n : Nat} {runs rest : List Run} {ps : List PageNo} (h : popPages n runs = some (ps, rest)) :
    freeList runs = ps ++ freeList rest ∧ ps.length = n := by
  induction n generalizing runs ps with
  | zero =>
    simp only [popPages, Option.some.injEq, Prod.mk.injEq] at h
    obtain ⟨rfl, rfl⟩ := h
    simp
  | succ n ih =>
    simp only [popPages] at h
    split at h
    · cases h
    · next p runs' hp =>
      rw [Option.map_eq_some_iff] at h
      obtain ⟨⟨qs, r⟩, hq, he⟩ := h
      simp only [Prod.mk.injEq] at he
      obtain ⟨rfl, rfl⟩ := he
      obtain ⟨h1, h2⟩ := ih hq
      exact ⟨by rw [freeList_popPage hp, h1]; rfl, by simp [h2]⟩

/-- The allocation fails only when fewer pages are free (R32). -/
theorem popPages_none {n : Nat} {runs : List Run} (h : popPages n runs = none) : (freeList runs).length < n := by
  induction n generalizing runs with
  | zero => simp [popPages] at h
  | succ n ih =>
    simp only [popPages] at h
    split at h
    · next hp => simp [popPage_none hp]
    · next p runs' hp =>
      rw [Option.map_eq_none_iff] at h
      have := ih h
      rw [freeList_popPage hp]
      simpa using this

/-- What giving pages back does: they join the tail in order, and the lane's count falls (R29, R31). -/
theorem Store.giveBack_spec (st : Store) (l : Lane) (pages : List PageNo) :
    freeList (st.giveBack l pages).free = freeList st.free ++ pages ∧
    (st.giveBack l pages).inUse = st.inUse.set l (st.inUse.get l - pages.length) ∧
    (st.giveBack l pages).budget = st.budget ∧ (st.giveBack l pages).banks = st.banks ∧
    (st.giveBack l pages).errs = st.errs :=
  ⟨freeList_foldl_pushPage pages st.free, rfl, rfl, rfl, rfl⟩

/-- What an allocation does when it succeeds (R29, R31, R32). -/
theorem Store.allocate_spec {st st' : Store} {l : Lane} {n : Nat} {pages : List PageNo}
    (h : st.allocate l n = some (pages, st')) :
    freeList st.free = pages ++ freeList st'.free ∧ pages.length = n ∧
    st'.inUse = st.inUse.set l (st.inUse.get l + n) ∧ st'.budget = st.budget ∧ st'.banks = st.banks ∧
    st'.errs = st.errs := by
  unfold Store.allocate at h
  rw [Option.map_eq_some_iff] at h
  obtain ⟨⟨ps, r⟩, hp, he⟩ := h
  simp only [Prod.mk.injEq] at he
  obtain ⟨rfl, rfl⟩ := he
  exact ⟨(freeList_popPages hp).1, (freeList_popPages hp).2, rfl, rfl, rfl, rfl⟩

/-- An allocation fails only when fewer pages are free. -/
theorem Store.allocate_none {st : Store} {l : Lane} {n : Nat} (h : st.allocate l n = none) :
    (freeList st.free).length < n := by
  unfold Store.allocate at h
  rw [Option.map_eq_none_iff] at h
  exact popPages_none h

/-! ### The error map -/

theorem mem_insertErr {a : Nat} {e : WordErr} {m : List (Nat × WordErr)} {x : Nat × WordErr}
    (h : x ∈ insertErr a e m) : x = (a, e) ∨ x ∈ m := by
  induction m with
  | nil => simpa [insertErr] using h
  | cons y t ih =>
    unfold insertErr at h
    split at h
    · simpa using h
    · split at h
      · rcases List.mem_cons.1 h with h | h
        · exact .inl h
        · exact .inr (List.mem_cons_of_mem _ h)
      · rcases List.mem_cons.1 h with h | h
        · exact .inr (h ▸ List.mem_cons_self)
        · rcases ih h with h | h
          · exact .inl h
          · exact .inr (List.mem_cons_of_mem _ h)

/-- Putting an error into the map keeps its addresses rising. -/
theorem insertErr_pairwise (a : Nat) (e : WordErr) {m : List (Nat × WordErr)} (h : m.Pairwise fun x y => x.1 < y.1) :
    (insertErr a e m).Pairwise fun x y => x.1 < y.1 := by
  induction m with
  | nil => simp [insertErr]
  | cons y t ih =>
    rw [List.pairwise_cons] at h
    unfold insertErr
    split
    · next hlt =>
      refine List.pairwise_cons.2 ⟨fun z hz => ?_, List.pairwise_cons.2 h⟩
      rcases List.mem_cons.1 hz with rfl | hz
      · exact hlt
      · exact Nat.lt_trans hlt (h.1 z hz)
    · split
      · next heq => exact List.pairwise_cons.2 ⟨fun z hz => heq ▸ h.1 z hz, h.2⟩
      · next hne hlt =>
        refine List.pairwise_cons.2 ⟨fun z hz => ?_, ih h.2⟩
        rcases mem_insertErr hz with rfl | hz
        · show y.1 < a
          omega
        · exact h.1 z hz

theorem Store.wf_iff (st : Store) : st.wf = true ↔ st.errs.Pairwise fun a b => a.1 < b.1 := by
  simp [Store.wf]

/-- A page's write keeps the error map's canonical form. -/
theorem errs_wf_writePage (st : Store) (p : PageNo) (h : st.wf = true) : (st.writePage p).wf = true := by
  rw [Store.wf_iff] at h ⊢
  unfold Store.writePage
  dsimp only
  split
  · exact h.sublist List.filter_sublist
  · exact insertErr_pairwise _ _ (h.sublist List.filter_sublist)

/-- The writes of several pages keep it. -/
theorem errs_wf_writePages (st : Store) (ps : List PageNo) (h : st.wf = true) : (st.writePages ps).wf = true :=
  foldl_invariant Store.writePage (fun st => st.wf = true) (fun st p => errs_wf_writePage st p) ps st h

/-- The error map after power-up has the canonical form. -/
theorem errs_wf_reset : State.reset.store.wf = true := by decide

/-- What a page's write leaves alone. -/
@[simp] theorem Store.writePage_free (st : Store) (p : PageNo) : (st.writePage p).free = st.free := by
  unfold Store.writePage; dsimp only; split <;> rfl

@[simp] theorem Store.writePage_inUse (st : Store) (p : PageNo) : (st.writePage p).inUse = st.inUse := by
  unfold Store.writePage; dsimp only; split <;> rfl

@[simp] theorem Store.writePage_budget (st : Store) (p : PageNo) : (st.writePage p).budget = st.budget := by
  unfold Store.writePage; dsimp only; split <;> rfl

@[simp] theorem Store.writePages_free (st : Store) (ps : List PageNo) : (st.writePages ps).free = st.free :=
  foldl_keeps Store.writePage Store.free Store.writePage_free ps st

@[simp] theorem Store.writePages_inUse (st : Store) (ps : List PageNo) : (st.writePages ps).inUse = st.inUse :=
  foldl_keeps Store.writePage Store.inUse Store.writePage_inUse ps st

@[simp] theorem Store.writePages_budget (st : Store) (ps : List PageNo) : (st.writePages ps).budget = st.budget :=
  foldl_keeps Store.writePage Store.budget Store.writePage_budget ps st

/-! ### Reading pages -/

@[simp] theorem State.readErr_lanes (s : State) (k : Fin 8) (e : WordErr) : (s.readErr k e).lanes = s.lanes := by
  unfold State.readErr; dsimp only; split <;> rfl

@[simp] theorem State.readErr_free (s : State) (k : Fin 8) (e : WordErr) : (s.readErr k e).store.free = s.store.free := by
  unfold State.readErr; dsimp only; split <;> rfl

@[simp] theorem State.readErr_inUse (s : State) (k : Fin 8) (e : WordErr) :
    (s.readErr k e).store.inUse = s.store.inUse := by
  unfold State.readErr; dsimp only; split <;> rfl

@[simp] theorem State.readErr_budget (s : State) (k : Fin 8) (e : WordErr) :
    (s.readErr k e).store.budget = s.store.budget := by
  unfold State.readErr; dsimp only; split <;> rfl

@[simp] theorem State.readErr_errs (s : State) (k : Fin 8) (e : WordErr) : (s.readErr k e).store.errs = s.store.errs := by
  unfold State.readErr; dsimp only; split <;> rfl

@[simp] theorem State.readErr_panel (s : State) (k : Fin 8) (e : WordErr) : (s.readErr k e).panel = s.panel := by
  unfold State.readErr; dsimp only; split <;> rfl

@[simp] theorem State.readErr_pending (s : State) (k : Fin 8) (e : WordErr) : (s.readErr k e).pending = s.pending := by
  unfold State.readErr; dsimp only; split <;> rfl

/-- An observation that one word's reading keeps is kept by the reading of a page. -/
theorem readPage_keeps {β : Type} (obs : State → β) (h : ∀ s k e, obs (State.readErr s k e) = obs s) (p : PageNo)
    (s : State) : obs (s.readPage p) = obs s := by
  unfold State.readPage
  exact foldl_keeps (fun (s : State) (e : Nat × WordErr) => s.readErr (bankOf p) e.2) obs (fun s e => h s _ e.2) _ s

/-- An observation that one word's reading keeps is kept by the reading of pages. -/
theorem readPages_keeps {β : Type} (obs : State → β) (h : ∀ s k e, obs (State.readErr s k e) = obs s) (ps : List PageNo)
    (s : State) : obs (s.readPages ps) = obs s :=
  foldl_keeps State.readPage obs (fun s p => readPage_keeps obs h p s) ps s

@[simp] theorem State.readPages_lanes (s : State) (ps : List PageNo) : (s.readPages ps).lanes = s.lanes :=
  readPages_keeps State.lanes State.readErr_lanes ps s

@[simp] theorem State.body?_readPages (s : State) (ps : List PageNo) (k : Lane) :
    (s.readPages ps).body? k = s.body? k := by
  unfold State.body?; rw [State.readPages_lanes]

@[simp] theorem State.readPages_free (s : State) (ps : List PageNo) : (s.readPages ps).store.free = s.store.free :=
  readPages_keeps (fun s => s.store.free) State.readErr_free ps s

@[simp] theorem State.readPages_inUse (s : State) (ps : List PageNo) : (s.readPages ps).store.inUse = s.store.inUse :=
  readPages_keeps (fun s => s.store.inUse) State.readErr_inUse ps s

@[simp] theorem State.readPages_budget (s : State) (ps : List PageNo) : (s.readPages ps).store.budget = s.store.budget :=
  readPages_keeps (fun s => s.store.budget) State.readErr_budget ps s

@[simp] theorem State.readPages_errs (s : State) (ps : List PageNo) : (s.readPages ps).store.errs = s.store.errs :=
  readPages_keeps (fun s => s.store.errs) State.readErr_errs ps s

@[simp] theorem State.readPages_panel (s : State) (ps : List PageNo) : (s.readPages ps).panel = s.panel :=
  readPages_keeps State.panel State.readErr_panel ps s

@[simp] theorem State.readPages_pending (s : State) (ps : List PageNo) : (s.readPages ps).pending = s.pending :=
  readPages_keeps State.pending State.readErr_pending ps s

end Sys2Proof.Machine
end

