-- ==== Sys2Proof/Tests/Slice0.lean ====
section
/-! SUPPORT. Tests: what WellFormed refuses, the manual's worked examples and tables, one small step of each command, and for
each statement with hypotheses the states and operands that meet them. -/

namespace Sys2Proof.Tests

open Sys2Proof Sys2Proof.Machine

/-! ### Small states -/

/-- A request with tag 0x31 (10.8). -/
def req (code : Byte) (body : List Byte) : Request := { tag := 0x31, code := code, body := body }

/-- One request waiting in a port's inbound queue. -/
def asked (p : Port) (code : Byte) (body : List Byte) (s : State) : State :=
  s.modPort p fun q => { q with inbound := [req code body] }

/-- What a command's outcome shows, if it is a next state. -/
def seen {α : Type} (f : State → α) : Host.Outcome State Fault Refusal → Option α
  | .next t => some (f t)
  | _ => none

/-- The last reply in a port's queue: its result and its body. -/
def answer (p : Port) (s : State) : Option (Result × List Byte) :=
  (s.link.ports.get p).replies.getLast?.map fun x => (x.result, x.body)

/-- A command's reply at port A to a request on a state. -/
def ans (c : Instr) (code : Byte) (body : List Byte) (s : State) : Option (Result × List Byte) :=
  (seen (answer .a) (exec c (asked .a code body s))).join

/-- A class NONE lane's format at 25 frames a second. -/
def fmt : Format := { rate := 2, vclass := .audioOnly, channels := .c2 }

/-- A received record of one page. -/
def rec (q : Nat) : Record :=
  { seq := BitVec.ofNat 32 q, origin := .received, pages := [q], samples := 1920, audioState := .normal, level := 100
    covered := false, carriedPrefix := [], own := [], damage := none, picture := .black, audio := [], carryCopy := [] }

/-- An in-arrival frame of one page. -/
def arriving (q : Nat) : InArrival :=
  { seq := BitVec.ofNat 32 q, pages := [q], covered := false, discard := false, ticksSeen := 0, accepted := 0, own := []
    carryCopy := [], raster := .noVideo, written := 0 }

/-- A lane with three records 5 to 7, frame 8 in arrival, and a target, a dump size and a cover lead of 2 frames. -/
def body (m : Mode) : LaneBody :=
  { LaneBody.fresh fmt 8 with
    mode := m
    timing := { target := some { ms := 80, frames := 2 }, dump := { ms := 80, frames := 2 }, lead := { ms := 80, frames := 2 } }
    intake := { Intake.fresh with arrival := some (arriving 8), nextSeq := 9 }
    dl := { DelayLine.fresh with records := [rec 5, rec 6, rec 7] } }

/-- Lane 1 with a body, the other lanes OFF. -/
def one (b : LaneBody) : State := State.reset.setBody .l1 (some b)

/-- A follower of lane 1 with offset 0. -/
def follower (m : Mode) (pending : Int) : LaneBody :=
  { body m with link := some { leader := .l1, off := 0, pending := pending, leaderMoved := true } }

/-- Lane 1 leading lane 2. -/
def two (m : Mode) (pending : Int) : State := (one (body m)).setBody .l2 (some (follower m pending))

/-- A lane with nothing arriving. -/
def waiting (b : LaneBody) : LaneBody := { b with intake := { b.intake with arrival := none } }

/-- A lane with a mark of a standing on a seq. -/
def marked (x : Standing) (q : Nat) (b : LaneBody) : LaneBody :=
  { b with dl := { b.dl with mark := some { seq := BitVec.ofNat 32 q, standing := x } } }

/-- The state with a lane changed. -/
def mod (l : Lane) (f : LaneBody → LaneBody) (s : State) : State := s.modBody l f

/-! ### What WellFormed refuses -/

theorem test_wf_payload_too_long : (Instr.packetArrival .l1 0 (List.replicate 256 0)).wf = false := by
  simp only [Instr.wf, payloadOk, List.length_replicate]; decide
theorem test_wf_payload_longest : (Instr.packetArrival .l1 0 (List.replicate 255 0)).wf = true := by
  simp only [Instr.wf, payloadOk, List.length_replicate]; decide
theorem test_wf_too_many_channels :
    (Instr.arrivalCompletion .l1 { audio := List.replicate 17 none, picture := 0, whole := true, audioPageFirst := false }).wf
      = false := by decide
theorem test_wf_start_too_many_channels :
    (Instr.arrivalStart .l1 .noVideo
      { audio := List.replicate 17 none, picture := 0, whole := true, audioPageFirst := false }).wf = false := by decide
theorem test_illformed_packet_is_refused :
    exec (.packetArrival .l1 0 (List.replicate 256 0)) State.reset = .refused .illFormed := by
  simp only [exec, execPacketArrival, payloadOk, List.length_replicate]; rfl

/-! ### The manual's figures -/

/-- The table of R2. -/
theorem test_maximum_records :
    [maxRecords 6 .audioOnly, maxRecords 65536 .audioOnly, maxRecords 6000 .hd720, maxRecords 65536 .hd720,
      maxRecords 126 .hd1080, maxRecords 12000 .hd1080, maxRecords 16384 .hd1080, maxRecords 65536 .hd1080]
      = [4, 4096, 598, 4096, 4, 569, 778, 3118] := by decide

/-- 6.8: 210 frames at rate code 3 are 7,007 ms, 150 are 5,005 ms, and 6,000 ms are 180 frames. -/
theorem test_conversions : (toMs 3 210, toMs 3 150, toFrames 3 6000) = (7007, 5005, 180) := by decide

/-- 5.4.1: tone entries at A = 1,048,576 and A = 3. -/
theorem test_tone_figures :
    [0, 4, 8, 12, 24, 28, 36, 40].map (toneEntry 1048576) = [0, 524288, 908093, 1048576, 0, -524288, -1048576, -908093] ∧
    (toneEntry 3 4, toneEntry 3 28) = (2, -2) := by decide

/-- R49: the legal counts. -/
theorem test_legal_counts :
    (legalCount 3 1601, legalCount 3 1602, legalCount 3 1600, legalCount 6 801, legalCount 0 2002)
      = (true, true, false, true, true) := by decide

/-- The check value of the CRC of R167 over the ASCII digits 1 to 9. -/
theorem test_crc : crc16 [0x31, 0x32, 0x33, 0x34, 0x35, 0x36, 0x37, 0x38, 0x39] = 0x29B1 := by decide +kernel

/-- 10.8: the dump request's frame before its CRC, and the reply's. -/
theorem test_frames_of_the_dump_example :
    (frameBytes [0x31, 0x2A, 0x02]).take 5 = [0xA7, 0x03, 0x31, 0x2A, 0x02] ∧
    (replyFrame { tag := 0x31, code := 0x2A, result := .ok, isController := true, body := [0, 4, 1, 0, 7] } false).take 10
      = [0xA7, 0x08, 0x31, 0xAA, 0x40, 0, 4, 1, 0, 7] := by decide

/-- 10.8: the notice's body. -/
theorem test_notice_of_the_dump_example :
    noticeBody { lane := some .l2, detail := .dumpDone .dump 4 false, count := 1 }
      = [4, 2, 1, 0x01, 0x00, 0x04, 0x00, 0x00, 0x00] := by decide

/-- R29: the first frame's pages after power-up, and a freed page behind the tail. -/
theorem test_first_pages :
    ((State.reset.store.allocate .l1 10).map (·.1)) = some [0, 1, 2, 3, 4, 5, 6, 7, 8, 9] ∧
    freeList (pushPage 3 [{ first := 8, more := 1 }]) = [8, 9, 3] := by decide

/-! ### One step of each command -/

theorem test_powerUp_rate : seen (·.link.lineRate) (exec (.powerUp true) (one (body .pass))) = some .baud115200 := by decide
theorem test_resetN_lane : seen (·.mode? .l1) (exec (.resetN false) (one (body .pass))) = some none := by decide
theorem test_receiveByte_start :
    seen (fun t => (t.link.ports.get .a).rx) (exec (.receiveByte .a 0xA7 false) State.reset) = some .length := by decide
theorem test_gapExpiry_counts :
    seen (fun t => (t.link.ports.get .a).gapError)
      (exec (.gapExpiry .a) (State.reset.modPort .a fun q => { q with rx := .length })) = some 1 := by decide
theorem test_unknownMessage : ans .unknownMessage 0x7F [] State.reset = some (.unknownMessage, []) := by decide
theorem test_identify : ans .identify 0x01 [] State.reset = some (.ok, [0x0C, 0x4A, 0x0D, 0x44, 0x03]) := by decide
theorem test_unitStatus :
    ans .unitStatus 0x02 [0] (one (body .drain))
      = some (.ok, 1 :: List.replicate 16 0 ++ [5, 0, 0, 0]) := by decide
theorem test_restart :
    seen (·.link.restartPending) (exec .restart (asked .a 0x03 [] State.reset)) = some (some .a) := by decide
theorem test_restartEffect_waits :
    seen (·.link.restartPending) (exec .restartEffect { State.reset with link := { State.reset.link with
      restartPending := some .b } }) = some none := by decide
theorem test_takeControl :
    seen (fun t => (t.link.controller, (t.link.ports.get .a).notices.map (·.detail)))
      (exec .takeControl (asked .b 0x04 [] State.reset)) = some (.b, [.controlLost .b]) := by decide
theorem test_setTakeover : ans .setTakeover 0x05 [1] State.reset = some (.ok, [1]) := by decide
theorem test_setNotices :
    ans .setNotices 0x06 (0 :: List.replicate 13 4) State.reset = some (.badArgument, []) := by decide
theorem test_storeStatus_bad_view : ans .storeStatus 0x07 [2] State.reset = some (.badArgument, []) := by decide
theorem test_storeClearCounts : ans .storeClearCounts 0x08 [] State.reset = some (.ok, []) := by decide
theorem test_storeInject :
    seen (fun t => (t.store.banks.get 3).arm) (exec .storeInject (asked .a 0x09 [3, 1, 0] State.reset))
      = some (some { size := .double, field := .data }) := by decide
theorem test_panelLockOn : seen (·.panel.lockout) (exec .panelLockOn (asked .a 0x0A [1] State.reset)) = some true := by decide
theorem test_panelLockOff : ans .panelLockOff 0x0A [0] State.reset = some (.ok, [0]) := by decide
theorem test_panelBindIn_clamps :
    ans .panelBindIn 0x0B [4, 1, 3, 0, 33] State.reset = some (.clamped, [4, 1, 3, 0, 32]) := by decide
theorem test_panelBindOut_needs_a_lane :
    ans .panelBindOut 0x0C [1, 1, 0, 0] State.reset = some (.badArgument, []) := by decide
theorem test_panelDrive :
    ans .panelDrive 0x0D [1, 1, 0, 0] State.reset = some (.ok, [1, 0, 0, 0, 1, 0, 0, 1]) := by decide
theorem test_panelStatus_bad_view : ans .panelStatus 0x0E [2] State.reset = some (.badArgument, []) := by decide
/-- R3, R183: HD1080 at rate code 3 with 12,000 pages gives M = 569. -/
theorem test_laneConfigure :
    ans .laneConfigure 0x20 [1, 3, 2, 16, 0x00, 0x2E, 0xE0, 0] State.reset
      = some (.ok, [0x00, 0x2E, 0xE0, 0x02, 0x39]) := by decide
theorem test_laneRelease :
    seen (·.mode? .l1) (exec .laneRelease (asked .a 0x21 [1] (one (body .pass)))) = some none := by decide
theorem test_laneTiming :
    ans .laneTiming 0x22 [1, 0, 80, 0, 0, 0, 40] (one (body .pass))
      = some (.ok, [0, 2, 0, 80, 0, 0, 0, 0, 0, 1, 0, 40]) := by decide
theorem test_laneGovernor_clamps :
    ans .laneGovernor 0x23 [1, 0xFF, 0, 0, 0, 3, 0, 12, 0, 5, 3] (one (body .pass))
      = some (.clamped, [0x7F, 0xFF, 0xFF, 0, 3, 1, 12, 0, 12, 3]) := by decide
theorem test_laneRoutes_low_above_high :
    ans .laneRoutes 0x24 [1, 1, 0, 2, 0, 1, 0] (one (body .pass)) = some (.badArgument, []) := by decide
theorem test_laneWatch_long_match :
    ans .laneWatch 0x25 [1, 0, 1, 5, 0, 0, 0, 0, 0] (one (body .pass)) = some (.badArgument, []) := by decide
theorem test_laneCoverFill :
    ans .laneCoverFill 0x26 [1, 1, 0xFF, 0, 0, 0, 3] (one (body .pass))
      = some (.clamped, [1, 0x7F, 0xFF, 0xFF, 0, 3]) := by decide
theorem test_laneSplice : ans .laneSplice 0x27 [1, 2, 0, 3] (one (body .pass)) = some (.badArgument, []) := by decide
theorem test_laneEnter :
    seen (·.mode? .l1) (exec .laneEnter (asked .a 0x28 [1] (one (body .pass)))) = some (some .build) := by decide
theorem test_laneExitGentle :
    seen (·.mode? .l1) (exec .laneExitGentle (asked .a 0x29 [1, 0] (one (body .build)))) = some (some .drain) := by decide
theorem test_laneExitNow :
    ans .laneExitNow 0x29 [1, 1] (one (body .build)) = some (.ok, [0, 4, 1, 0, 0]) := by decide
/-- R136: H ≥ C with a frame arriving removes C + 1. -/
theorem test_laneDump : ans .laneDump 0x2A [1] (one (body .build)) = some (.ok, [0, 3, 1, 0, 1]) := by decide
/-- R136: H < C answers PARTIAL. -/
theorem test_laneDump_partial :
    ans .laneDump 0x2A [1] (mod .l1 (fun b => { b with dl := .fresh }) (one (body .build)))
      = some (.partialCut, [0, 1, 1, 0, 0]) := by decide
theorem test_laneMark : ans .laneMark 0x2B [1] (one (body .pass)) = some (.ok, [0, 0, 0, 8, 2]) := by decide
theorem test_laneCutToMark :
    ans .laneCutToMark 0x2C [1] (one (marked .held 6 (body .trim))) = some (.ok, [0, 3, 1, 0, 1]) := by decide
theorem test_laneCutToMark_aired :
    ans .laneCutToMark 0x2C [1] (one (marked (.gone .aired) 2 (body .trim))) = some (.markAired, [0, 4, 1, 0, 0]) := by decide
theorem test_laneCoverOn :
    seen (fun t => (t.body? .l1).map fun b => b.dl.records.map (·.covered))
      (exec .laneCoverOn (asked .a 0x2D [1, 1] (one (body .pass)))) = some (some [false, true, true]) := by decide
theorem test_laneCoverOff : ans .laneCoverOff 0x2D [1, 0] (one (body .pass)) = some (.ok, [0]) := by decide
theorem test_laneLink :
    ans .laneLink 0x2E [2, 1] ((one (body .pass)).setBody .l2 (some (.fresh fmt 8))) = some (.ok, [0, 0, 0, 9]) := by decide
theorem test_laneUnlink :
    seen (·.leaderOf? .l2) (exec .laneUnlink (asked .a 0x2F [2] (two .pass 0))) = some none := by decide
theorem test_laneStatus_off : ans .laneStatus 0x30 [1, 2, 0] State.reset = some (.ok, 2 :: List.replicate 27 0) := by decide
theorem test_pageWriteComplete_arm :
    seen (fun t => t.store.errs)
      (exec (.pageWriteComplete .l1)
        { one { body .pass with
            fmt := { fmt with vclass := .hd720 }
            intake := { Intake.fresh with arrival := some { arriving 8 with raster := .hd720, pages := [8, 9] } } } with
          store := State.reset.store.setBank 0 { Bank.clear with arm := some { size := .single, field := .data } } })
      = some [(8 * 32768, { size := .single, field := .data })] := by decide
theorem test_arrivalStart_pages :
    seen (fun t => (t.body? .l1).bind fun b => b.intake.arrival.map (·.pages))
      (exec (.arrivalStart .l1 .noVideo { audio := [], picture := 0, whole := true, audioPageFirst := false })
        (one (waiting (body .build)))) = some (some [0]) := by decide
theorem test_packetArrival_delay :
    seen (fun t => (t.body? .l1).bind fun b => b.intake.arrival.map (·.own))
      (exec (.packetArrival .l1 0x0410 [0]) (one (body .pass)))
      = some (some [{ carry := false, type := 0x0410, payload := [0] }]) := by decide
theorem test_arrivalCompletion_malformed :
    seen (fun t => ((t.lanes.get .l1).counters.malformed, (t.body? .l1).map (·.h)))
      (exec (.arrivalCompletion .l1 { audio := [some [1, 2]], picture := 0, whole := true, audioPageFirst := false })
        (one (body .build))) = some (1, some 4) := by decide
theorem test_laneTick_departs :
    seen (fun t => (t.body? .l1).map fun b => (b.h, b.play.depth, b.play.hold.map (·.seq)))
      (exec (.laneTick .l1 false) (one (body .pass))) = some (some (2, 3, some 5)) := by decide
/-- 3.7: the tick that declares the loss makes three fills. -/
theorem test_inputLossDeclared :
    seen (fun t => (t.body? .l1).map fun b => (b.intake.nextSeq, b.intake.loss))
      (exec (.inputLossDeclared .l1 true)
        (one { waiting (body .onTarget) with intake := { Intake.fresh with nextSeq := 1000, ticksSince := 2 } }))
      = some (some (1003, true)) := by decide
/-- 6.8.3: with no quiet an insertion falls where since reaches F. -/
theorem test_governorForce_inserts :
    seen (fun t => (t.body? .l1).map fun b => (b.h, b.gov.inserts, b.gov.since))
      (exec (.governorForce .l1 false) (one { body .build with
        timing := { (body .build).timing with target := some { ms := 200, frames := 5 } }
        govSet := { GovSettings.default with f := 300 }
        gov := { GovState.fresh with engaged := true, since := 299, ticked := true } })) = some (some (3, 1, 0)) := by decide
/-- R115: a lane entered before its first tick after a configure leaves since there, and raises it at the next. -/
theorem test_first_tick_leaves_since :
    [false, true].map (fun ticked => seen (fun t => (t.body? .l1).map fun b => (b.gov.since, b.gov.ticked))
      (exec (.laneTick .l1 false) (one { body .build with
        timing := { (body .build).timing with target := some { ms := 200, frames := 5 } }
        gov := { GovState.fresh with engaged := true, ticked := ticked } }))) = [some (some (0, true)), some (some (1, true))] := by
  decide
theorem test_referencePulse_locks :
    seen (·.tick.locked) (exec (.referencePulse (some 2)) { State.reset with tick := { locked := none, pulseSeen := true } })
      = some (some 2) := by decide
theorem test_referenceLost :
    seen (·.tick.locked) (exec .referenceLost { State.reset with tick := { locked := some 2, pulseSeen := true } })
      = some none := by decide
theorem test_panelSample_fires :
    seen (fun t => (t.panel.fired, t.mode? .l1))
      (exec (.panelSample 0 true) ((one (body .pass)).setInput 0 { InLine.reset with func := .enter, mask := 1 }))
      = some ([{ func := .enter, mask := 1 }], some .build) := by decide
theorem test_panelEdge_needs_the_count :
    seen (fun t => (t.panel.inputs.get 0).count)
      (exec (.panelEdge 0 true) (State.reset.setInput 0 { InLine.reset with length := 2 })) = some 0 := by decide
theorem test_transmitReply :
    seen (fun t => (t.link.ports.get .a).onLine.map (·.take 5))
      (exec (.transmitReply .a) (State.reset.modPort .a fun q =>
        { q with replies := [{ tag := 0x31, code := 0x2A, result := .noMark, isController := true, body := [] }] }))
      = some (some [0xA7, 0x03, 0x31, 0xAA, 0x44]) := by decide
theorem test_transmitNotice :
    seen (fun t => (t.link.ports.get .a).notices)
      (exec (.transmitNotice .a) (State.reset.post (some .l1) (.input false))) = some [] := by decide

/-! ### States and operands that meet the statements' hypotheses -/

/-- The controller's request waits, and is the next one taken. -/
theorem asks_asked {s : State} (code : Byte) (body : List Byte) (h : s.link = State.reset.link) :
    Asks (asked .a code body s) .a (req code body) code body := by
  have : (asked .a code body s).link = (asked .a code body State.reset).link := by simp [asked, State.modPort, h]
  refine ⟨?_, ?_, rfl, rfl⟩
  · rw [Serves, State.nextRequest, this]; rfl
  · rw [this]; rfl

/-- The observer's request waits, and is the next one taken. -/
theorem serves_observer {s : State} (code : Byte) (body : List Byte) (h : s.link = State.reset.link) :
    Serves (asked .b code body s) .b (req code body) ∧ (asked .b code body s).link.controller ≠ .b := by
  have : (asked .b code body s).link = (asked .b code body State.reset).link := by simp [asked, State.modPort, h]
  refine ⟨?_, ?_⟩
  · rw [Serves, State.nextRequest, this]; rfl
  · rw [this]; exact fun e => nomatch (show Port.a = Port.b from e)

theorem test_witness_StepExecutesTheFrontCommand :
    ({ State.reset with pending := [.identify] } : State).pending = .identify :: [] ∧ State.reset.pending = [] := by decide

/-- Each receiver state, with a byte at each edge of its class. -/
theorem test_witness_ReceiverFollowsItsTable :
    let at' (rx : Receiver) : State := State.reset.modPort .a fun q => { q with rx := rx }
    (({ State.reset with link := { State.reset.link with restartPending := some .a } } : State).link.restartPending.isSome = true) ∧
    ((at' .hunting).link.restartPending = none ∧ ((at' .hunting).link.ports.get .a).rx = .hunting) ∧
    (((at' .length).link.ports.get .a).rx = .length ∧ (2 : Byte).toNat = 2 ∧ (60 : Byte).toNat = 60 ∧ (61 : Byte).toNat = 61) ∧
    (((at' (.content 3 [1])).link.ports.get .a).rx = .content 3 [1] ∧ ([1] : List Byte).length + 1 < (3 : Byte).toNat) ∧
    (((at' (.content 2 [1])).link.ports.get .a).rx = .content 2 [1] ∧ ¬([1] : List Byte).length + 1 < (2 : Byte).toNat) ∧
    ((at' (.check 2 [1, 1] none)).link.ports.get .a).rx = .check 2 [1, 1] none ∧
    ((at' (.check 2 [1, 1] (some 0))).link.ports.get .a).rx = .check 2 (1 :: 1 :: []) (some 0) := by decide

theorem test_witness_RequestFrameArrivesWhole :
    (List.replicate 58 (0 : Byte)).length ≤ 58 ∧ State.reset.link.restartPending = none ∧
    (State.reset.link.ports.get .a).rx = .hunting := by decide

theorem test_witness_ExecutorServesThePortsInTurn :
    (∃ t, exec (.powerUp false) State.reset = .next t) ∧
    ∃ s t : State, s.link.restartPending ≠ none ∧ exec .restartEffect s = .next t ∧ t.link.restartPending = none :=
  ⟨⟨_, rfl⟩, { State.reset with link := { State.reset.link with restartPending := some .a } }, _, by decide, rfl, by decide⟩

/-- An unlisted code; a listed code with a length that is not; the observer's request that it may not send; arguments one
beyond their range on an OFF lane, of the panel, and of the last route entry. -/
theorem test_witness_ExecutorChecksInOrder :
    (Serves (asked .a 0x0F [] State.reset) .a (req 0x0F []) ∧ (req 0x0F []).code ∉ requestCodes) ∧
    (Serves (asked .a 0x01 [0] State.reset) .a (req 0x01 [0]) ∧ listedLength 0x01 1 = false) ∧
    (Serves (asked .b 0x30 [1, 0, 1] State.reset) .b (req 0x30 [1, 0, 1]) ∧ listedLength 0x30 3 = true ∧
      (asked .b 0x30 [1, 0, 1] State.reset).link.controller ≠ .b ∧ observerMay .b (req 0x30 [1, 0, 1]) = false) ∧
    ∀ x ∈ ([(0x28, [0]), (0x28, [5]), (0x20, [1, 8, 0, 2, 0, 0, 6, 0]), (0x0B, [17, 1, 1, 0, 1]), (0x0B, [16, 6, 16, 1, 1]),
        (0x0C, [1, 5, 0, 0]), (0x24, [4, 3, 0, 1, 0, 2, 4])] : List (Byte × List Byte)),
      Asks (asked .a x.1 x.2 State.reset) .a (req x.1 x.2) x.1 x.2 ∧
      x.1 ∈ requestCodes ∧ listedLength x.1 x.2.length = true ∧ argumentsOk (req x.1 x.2) = false :=
  ⟨⟨(asks_asked _ _ rfl).1, by decide⟩, ⟨(asks_asked _ _ rfl).1, by decide⟩,
    ⟨(serves_observer _ _ rfl).1, by decide, (serves_observer _ _ rfl).2, by decide⟩,
    fun x h => ⟨asks_asked _ _ rfl, by revert x; decide⟩⟩

/-- The bounds of the arguments themselves are listed. -/
theorem test_arguments_at_their_bounds :
    ([(0x28, [1]), (0x28, [4]), (0x20, [4, 7, 2, 16, 0, 0, 6, 1]), (0x0B, [16, 6, 15, 1, 0]), (0x0C, [16, 7, 0, 1]),
      (0x0C, [1, 5, 4, 0]), (0x24, [4, 3, 0, 1, 0, 2, 3]), (0x25, [1, 0, 1, 5, 0, 0, 0, 0, 3])] : List (Byte × List Byte)).all
      (fun x => argumentsOk (req x.1 x.2)) = true := by decide

theorem test_witness_EveryRequestGetsOneReply : Serves (asked .a 0x28 [1] State.reset) .a (req 0x28 [1]) :=
  (asks_asked _ _ rfl).1

theorem test_witness_ObserverChangesNoBlock :
    ∃ t, Serves (asked .b 0x04 [] State.reset) .b (req 0x04 []) ∧ (asked .b 0x04 [] State.reset).link.controller ≠ .b ∧
      exec (rowOf (req 0x04 [])) (asked .b 0x04 [] State.reset) = .next t :=
  ⟨_, (serves_observer _ _ rfl).1, (serves_observer _ _ rfl).2, rfl⟩

/-- A reply queue of none and of one. -/
theorem test_witness_RepliesAreSentOldestFirst :
    (State.reset.link.ports.get .a).replies = [] ∧
    ((State.reset.reply .a (req 1 []) (.ok [])).link.ports.get .a).replies =
      { tag := 0x31, code := 1, result := .ok, isController := true, body := [] } :: [] := by decide

/-- A set in order; a kind that is kept and one that is not. -/
theorem test_witness_PostingsCoalesce :
    let q := PortState.reset.post (some .l1) (.input false)
    let off := q.setKinds (Vector.replicate 13 { enabled := false, high := false })
    q.notices.Pairwise (fun a b => a.key < b.key) ∧ q.keeps (.input true) = true ∧
    off.notices.Pairwise (fun a b => a.key < b.key) ∧ off.keeps (.input true) = false := by decide

/-- Two entries pending: the HIGH one precedes the other. -/
theorem test_witness_NoticesAreSentInOrder :
    let q := (PortState.reset.post (some .l1) (.underrun 1)).post (some .l2) (.input false)
    let s := State.reset.modPort .a fun _ => q
    let e : NoticeEntry := { lane := some .l2, detail := .input false, count := 1 }
    s.link.ports.get .a = q ∧ q.replies = [] ∧ s.link.restartPending ≠ some .a ∧
    q.notices.Pairwise (fun a b => a.key < b.key) ∧ e ∈ q.notices ∧ ∀ x ∈ q.notices, x = e ∨ SentBefore q e x := by
  unfold SentBefore; decide

theorem test_witness_SetNoticesReplacesThePortsKinds :
    let body := portByte .b :: (Vector.replicate 13 ({ enabled := true, high := false } : KindSetting)).toList.map kindSettingByte
    AsksEither (asked .a 0x06 body State.reset) .a (req 0x06 body) 0x06 body ∧
    (asked .a 0x06 body State.reset).link.controller = .a := by
  refine ⟨⟨(asks_asked _ _ rfl).1, rfl, rfl⟩, rfl⟩

theorem test_witness_UnitQueriesAnswer :
    AsksEither (asked .a 0x01 [] State.reset) .a (req 0x01 []) 0x01 [] ∧
    (AsksEither (asked .a 0x02 [boolByte true] State.reset) .a (req 0x02 [boolByte true]) 0x02 [boolByte true] ∧
      (asked .a 0x02 [boolByte true] State.reset).link.controller = .a) ∧
    Serves (asked .b 0x31 [] State.reset) .b (req 0x31 []) ∧ (req 0x31 []).code ∉ requestCodes :=
  ⟨⟨(asks_asked _ _ rfl).1, rfl, rfl⟩, ⟨⟨(asks_asked _ _ rfl).1, rfl, rfl⟩, rfl⟩, (serves_observer _ _ rfl).1, by decide⟩

/-- TAKE_CONTROL from the controller and from the observer; SET_TAKEOVER, with a bad value, and from the observer; the resets. -/
theorem test_witness_RolesChangeHands :
    AsksEither (asked .a 0x04 [] State.reset) .a (req 0x04 []) 0x04 [] ∧
    (AsksEither (asked .b 0x04 [] State.reset) .b (req 0x04 []) 0x04 [] ∧
      (asked .b 0x04 [] State.reset).link.controller ≠ .b) ∧
    Asks (asked .a 0x05 [boolByte true] State.reset) .a (req 0x05 [boolByte true]) 0x05 [boolByte true] ∧
    (2 ≤ (2 : Byte).toNat ∧ Asks (asked .a 0x05 [2] State.reset) .a (req 0x05 [2]) 0x05 [2]) ∧
    (AsksEither (asked .b 0x05 [0] State.reset) .b (req 0x05 [0]) 0x05 [0] ∧
      (asked .b 0x05 [0] State.reset).link.controller ≠ .b) ∧
    (∃ t, exec (.powerUp true) State.reset = .next t) ∧ ∃ t, exec .restartEffect State.reset = .next t :=
  ⟨⟨(asks_asked _ _ rfl).1, rfl, rfl⟩, ⟨⟨(serves_observer _ _ rfl).1, rfl, rfl⟩, (serves_observer _ _ rfl).2⟩, asks_asked _ _ rfl,
    ⟨by decide, asks_asked _ _ rfl⟩, ⟨⟨(serves_observer _ _ rfl).1, rfl, rfl⟩, (serves_observer _ _ rfl).2⟩, ⟨_, rfl⟩, _, rfl⟩

theorem test_witness_RestartTakesTwoSteps :
    let s : State := { State.reset with link := { State.reset.link with restartPending := some .a } }
    Asks (asked .a 0x03 [] State.reset) .a (req 0x03 []) 0x03 [] ∧ State.reset.link.restartPending = none ∧
    (s.link.restartPending = some .a ∧ (s.link.ports.get .a).replies = []) ∧
    (s.reply .a (req 3 []) (.ok [])).link.restartPending = some .a ∧
    ((s.reply .a (req 3 []) (.ok [])).link.ports.get .a).replies ≠ [] :=
  ⟨asks_asked _ _ rfl, rfl, ⟨rfl, rfl⟩, rfl, by decide⟩

/-- LOCKED; FREE with and without a pulse seen. -/
theorem test_witness_ReferenceLocksAndFrees :
    let at' (x : Option (Fin 8)) (y : Bool) : State := { State.reset with tick := { locked := x, pulseSeen := y } }
    (at' (some 2) true).tick.locked = some 2 ∧ (none : Option (Fin 8)) ≠ some 2 ∧
    ((at' none false).tick.locked = none ∧ (at' none false).tick.pulseSeen = false) ∧
    (at' none true).tick.locked = none ∧ (at' none true).tick.pulseSeen = true := by decide

/-- Allocations of all the pages, and of one more. -/
theorem test_witness_FreeListIsFirstInFirstOut :
    2 ≤ (freeList [{ first := 4, more := 1 }]).length ∧ (freeList [{ first := 4, more := 1 }]).length < 3 := by decide

theorem test_witness_StoreMessagesReportAndSet :
    let armed := { State.reset with store := State.reset.store.setBank 7 { Bank.clear with
      arm := some { size := .single, field := .check } } }
    AsksEither (asked .a 0x07 [0] State.reset) .a (req 0x07 [0]) 0x07 [0] ∧
    AsksEither (asked .a 0x07 [1] State.reset) .a (req 0x07 [1]) 0x07 [1] ∧
    (2 ≤ (2 : Byte).toNat ∧ AsksEither (asked .a 0x07 [2] State.reset) .a (req 0x07 [2]) 0x07 [2]) ∧
    Asks (asked .a 0x08 [] State.reset) .a (req 0x08 []) 0x08 [] ∧
    (Asks (asked .a 0x09 [7, 0, 1] State.reset) .a (req 0x09 [7, 0, 1]) 0x09 [7, 0, 1] ∧
      (State.reset.store.banks.get 7).arm = none) ∧
    Asks (asked .a 0x09 [7, 0, 1] armed) .a (req 0x09 [7, 0, 1]) 0x09 [7, 0, 1] ∧ (armed.store.banks.get 7).arm ≠ none :=
  ⟨⟨(asks_asked _ _ rfl).1, rfl, rfl⟩, ⟨(asks_asked _ _ rfl).1, rfl, rfl⟩, ⟨by decide, (asks_asked _ _ rfl).1, rfl, rfl⟩,
    asks_asked _ _ rfl, ⟨asks_asked _ _ rfl, by decide⟩, asks_asked _ _ rfl, by decide⟩

/-- A store in order; a frame of the lane's raster class with a video page to come; and one with none to come. -/
theorem test_witness_PageWriteConsumesTheArm :
    let b : LaneBody := { body .pass with
      fmt := { fmt with vclass := .hd720 }
      intake := { Intake.fresh with arrival := some { arriving 8 with raster := .hd720, pages := [8, 9] } } }
    State.reset.store.wf = true ∧
    ((one b).body? .l1 = some b ∧ b.intake.arrival = some { arriving 8 with raster := .hd720, pages := [8, 9] } ∧
      rasterMatches b.fmt.vclass .hd720 = true ∧ (videoPages b.fmt.vclass [8, 9])[0]? = some 8) ∧
    ((one (body .pass)).body? .l1).bind LaneBody.nextVideoPage = none := by decide

/-! #### The invariants -/

/-- Lane 1 in TRIM with page 0 in a record and page 1 in arrival, leading lane 2, which owes it a skip. -/
def busy : State :=
  let own : LaneBody := { body .trim with
    intake := { Intake.fresh with arrival := some (arriving 1), nextSeq := 2 }, dl := { DelayLine.fresh with records := [rec 0] } }
  let s := (one own).setBody .l2 (some { waiting (follower .trim (-1)) with dl := .fresh })
  { s with store := { State.reset.store with
      free := [{ first := 2, more := 65533 }]
      budget := { l1 := 10, l2 := 10, l3 := 0, l4 := 0 }
      inUse := { l1 := 2, l2 := 0, l3 := 0, l4 := 0 }
      errs := [(0, { size := .double, field := .data })] } }

theorem busy_pagesOf (l : Lane) : busy.pagesOf l = match l with | .l1 => [1, 0] | .l2 | .l3 | .l4 => [] := by
  cases l <;> decide

theorem busy_pagesOwned : PagesOwned busy := by
  refine ⟨?_, fun l => by cases l <;> decide⟩
  have hf : freeList busy.store.free = List.range' 2 65534 := by
    show List.range' 2 65534 ++ [] = _
    rw [List.append_nil]
  have hr : List.range Config.poolPages = 0 :: 1 :: List.range' 2 65534 := by
    rw [List.range_eq_range', Config.poolPages, List.range'_succ, List.range'_succ]
  have hl : allLanes.flatMap busy.pagesOf = [1, 0] := by decide
  rw [hf, hr, hl]
  exact List.perm_append_comm.trans (List.Perm.swap ..)

theorem busy_body (l : Lane) (b : LaneBody) (h : busy.body? l = some b) : l = .l1 ∨ l = .l2 := by
  cases l <;> first | exact .inl rfl | exact .inr rfl | cases h

theorem test_witness_PagesStayOwnedOnce : ∃ t, PagesOwned busy ∧ exec (.laneTick .l1 true) busy = .next t :=
  ⟨_, busy_pagesOwned, rfl⟩

theorem busy_budgets : BudgetsKept busy := by
  refine ⟨fun l => ?_, by decide⟩
  cases l
  · exact ⟨by decide, by decide, by decide, fun f h => by cases h; decide, by decide, fun r h => nomatch h⟩
  · exact ⟨by decide, by decide, by decide, fun f h => (by cases h), by decide, fun r h => (by cases h)⟩
  · rfl
  · rfl

theorem test_witness_LanesStayWithinBudget : ∃ t, BudgetsKept busy ∧ exec (.laneTick .l1 true) busy = .next t :=
  ⟨_, busy_budgets, rfl⟩

theorem test_witness_AllocationNeverFails : PagesOwned busy ∧ BudgetsKept busy := ⟨busy_pagesOwned, busy_budgets⟩

theorem test_witness_ErrorMapStaysCanonical : ∃ t, busy.store.wf = true ∧ exec (.laneTick .l1 true) busy = .next t :=
  ⟨_, by decide, rfl⟩

theorem zero_bounded : LaneCounters.zero.Bounded := by
  simp [LaneCounters.Bounded, LaneCounters.zero]

theorem busy_counters (l : Lane) : (busy.lanes.get l).counters = LaneCounters.zero := by cases l <;> rfl

theorem busy_banks (k : Fin 8) : busy.store.banks.get k = Bank.clear := by
  show (Vector.replicate 8 Bank.clear)[k] = _
  simp

theorem busy_bounded : LanesBounded busy := by
  refine ⟨fun l b h => ?_, fun l => busy_counters l ▸ zero_bounded, fun k => by
    rw [busy_banks]; exact ⟨Nat.zero_le _, Nat.zero_le _, Nat.zero_le _⟩⟩
  obtain rfl | rfl := busy_body l b h <;> cases h <;>
    refine ⟨by decide, ?_, ⟨by decide, fun f h => by cases h; try decide⟩⟩ <;>
    refine ⟨fun t h => ?_, by decide, by decide, by decide, by decide, fun f h => ?_, by decide, by decide, by decide,
      by decide, by decide, by decide, by decide, by decide, by decide, by decide, by decide, by decide, by decide, by decide⟩ <;>
    cases h <;> decide

theorem test_witness_LaneBoundsAreKept : ∃ t, LanesBounded busy ∧ exec (.laneTick .l1 true) busy = .next t :=
  ⟨_, busy_bounded, rfl⟩

theorem busy_seqs : SeqsKept busy ∧ SeqsSpan busy := by
  refine ⟨fun l b h => ?_, fun l b h => ?_⟩ <;> obtain rfl | rfl := busy_body l b h <;> cases h
  · exact ⟨by simp [LaneBody.InOrder, LaneBody.seqs, LaneBody.behind, rec, arriving], fun m h => by cases h⟩
  · exact ⟨by simp [LaneBody.InOrder, LaneBody.seqs, DelayLine.fresh, waiting, follower, body], fun m h => by cases h⟩
  · simp [LaneBody.seqs, LaneBody.behind, rec, arriving, Intake.fresh]
  · simp [LaneBody.seqs, DelayLine.fresh, waiting, follower, body]

/-- A lane with each standing of the mark, and an order with a next-seq that wrapped. -/
theorem test_witness_LineOrderAndMarkAreKept :
    (∃ t, SeqsKept busy ∧ SeqsSpan busy ∧ exec (.laneTick .l1 true) busy = .next t) ∧
    (body .trim).InOrder ∧ (marked .held 6 (body .trim)).MarkPlaced ∧ (marked .arriving 8 (body .trim)).MarkPlaced ∧
    (marked .pending 9 (waiting (body .trim))).MarkPlaced ∧
    ({ body .trim with
      intake := { Intake.fresh with arrival := some (arriving 0), nextSeq := 1 }
      dl := { DelayLine.fresh with records := [rec 4294967295] } } : LaneBody).InOrder := by
  refine ⟨⟨_, busy_seqs.1, busy_seqs.2, rfl⟩, ?_, fun m h => ?_, fun m h => ?_, fun m h => ?_, ?_⟩
  · simp [LaneBody.InOrder, LaneBody.seqs, LaneBody.behind, body, rec, arriving]
  · cases h; decide
  · cases h; rfl
  · cases h; exact ⟨rfl, rfl⟩
  · simp [LaneBody.InOrder, LaneBody.seqs, LaneBody.behind, rec, arriving]

theorem busy_links : LinksKept busy := by
  intro l b h
  obtain rfl | rfl := busy_body l b h <;> cases h
  · exact ⟨rfl, rfl, fun _ => rfl⟩
  · exact ⟨by decide, _, rfl, rfl, rfl, .inl rfl, by decide, by decide, rfl⟩

theorem test_witness_LinkRelationIsKept : ∃ t, LinksKept busy ∧ exec (.laneTick .l1 true) busy = .next t :=
  ⟨_, busy_links, rfl⟩

/-- Line 1 bound to MARK of lane 1 and held active, its group FIRED; line 2 unbound, inverted, at the last count of 32. -/
def held : State :=
  { busy with panel := { State.reset.panel with
      inputs := (State.reset.panel.inputs.set 0 { func := .mark, mask := 1, inverted := false, length := 2, level := true, count := 1 }).set 1 { InLine.reset with inverted := true, length := 32, count := 31 }
      fired := [{ func := .mark, mask := 1 }] } }

theorem held_panel : PanelKept held := by
  refine ⟨by decide, fun g => ?_⟩
  obtain ⟨f, m⟩ := g
  revert m
  cases f <;> decide

theorem test_witness_PanelStaysConsistent : ∃ t, PanelKept held ∧ exec (.panelEdge 1 true) held = .next t :=
  ⟨_, held_panel, rfl⟩

/-- Port A in the middle of a frame with a full inbound queue, a full reply queue and a pending notice at count 255. -/
def crowded : State :=
  State.reset.modPort .a fun q => { q with
    rx := .content 60 (List.replicate 59 0)
    inbound := List.replicate 4 (req 1 [])
    replies := List.replicate 4 { tag := 1, code := 1, result := .ok, isController := true, body := [] }
    gapError := 65535
    notices := [{ lane := some .l4, detail := .underrun 1, count := 255 }] }

theorem test_witness_PortsStayBounded : ∃ t, PortsKept crowded ∧ exec (.receiveByte .a 0 false) crowded = .next t := by
  refine ⟨_, fun p => ?_, rfl⟩
  cases p
  · exact ⟨⟨⟨by decide, by decide, by decide⟩, by decide, by decide, by decide, by decide, by decide, by decide, by decide,
      by decide⟩, by decide⟩
  · exact ⟨⟨trivial, by decide, by decide, by decide, by decide, by decide, by decide, by decide, by decide⟩, by decide⟩

/-! #### Requests for lanes -/

/-- The controller's request is the next one taken, on a state of a kind. -/
def Meets (code : Byte) (body : List Byte) (s : State) (P : State → Prop) : Prop :=
  Asks (asked .a code body s) .a (req code body) code body ∧ P (asked .a code body s)

theorem meets {code : Byte} {body : List Byte} {s : State} {P : State → Prop} (h : s.link = State.reset.link)
    (hp : P (asked .a code body s)) : Meets code body s P := ⟨asks_asked _ _ h, hp⟩

/-- A configure body for lane 1, HD1080 at rate code 3 with 16 channels. -/
def configure (b2 b1 b0 : Byte) (force : Bool) : List Byte :=
  [laneByte (some .l1), BitVec.ofNat 8 (3 : Fin 8).val, classByte .hd1080, BitVec.ofNat 8 ChannelCount.c16.toNat, b2, b1, b0,
    boolByte force]

/-- The whole pool, and one page more. -/
theorem test_witness_ConfigureFromOffStartsTheLane :
    Meets 0x20 (configure 1 0 0 false) State.reset (fun t => t.body? .l1 = none) ∧
    Meets 0x20 (configure 1 0 1 false) State.reset (fun t => t.body? .l1 = none) := ⟨meets rfl rfl, meets rfl rfl⟩

/-- A leader; LANE_ACTIVE; one page too many; the whole pool with force. -/
theorem test_witness_ReconfigureFlushesTheLane :
    Meets 0x20 (configure 0 0 0 false) (two .pass 0) (fun t => t.body? .l1 = some (body .pass)) ∧
    Meets 0x20 (configure 0 0 0 false) (one (body .drain)) (fun t => t.body? .l1 = some (body .drain)) ∧
    Meets 0x20 (configure 1 0 1 true) (one (body .build)) (fun t => t.body? .l1 = some (body .build)) ∧
    Meets 0x20 (configure 1 0 0 true) (one (body .build)) (fun t => t.body? .l1 = some (body .build)) :=
  ⟨meets rfl rfl, meets rfl rfl, meets rfl rfl, meets rfl rfl⟩

theorem test_witness_ReleaseTakesTheLaneOff :
    Meets 0x21 [laneByte (some .l3)] State.reset (fun t => t.body? .l3 = none) ∧
    Meets 0x21 [laneByte (some .l1)] (two .drain 1) (fun t => t.body? .l1 = some (body .drain) ∧ .l2 ∈ t.followersOf .l1) :=
  ⟨meets rfl rfl, meets rfl ⟨rfl, by decide⟩⟩

/-- A lane OFF; a link that is accepted, to a leader that covers, and one that is refused; an unlink of each kind of lane. -/
theorem test_witness_LinkAndUnlinkJoinAndPartLanes :
    let covering : LaneBody := coveredBy .control (body .pass)
    let idle : LaneBody := .fresh fmt 8
    Meets 0x2E [laneByte (some .l2), laneByte (some .l1)] (one (body .pass)) (fun t => t.body? .l2 = none) ∧
    Meets 0x2E [laneByte (some .l2), laneByte (some .l1)] ((one covering).setBody .l2 (some idle))
      (fun t => t.body? .l2 = some idle ∧ t.body? .l1 = some covering) ∧
    Meets 0x2E [laneByte (some .l1), laneByte (some .l1)] (one covering)
      (fun t => t.body? .l1 = some covering ∧ t.body? .l1 = some covering) ∧
    Meets 0x2F [laneByte (some .l2)] (one covering) (fun t => t.body? .l2 = none) ∧
    Meets 0x2F [laneByte (some .l1)] (one covering) (fun t => t.body? .l1 = some covering ∧ covering.link = none) ∧
    Meets 0x2F [laneByte (some .l2)] (two .drain 1)
      (fun t => t.body? .l2 = some (follower .drain 1) ∧ (follower .drain 1).link ≠ none) :=
  ⟨meets rfl rfl, meets rfl ⟨rfl, rfl⟩, meets rfl ⟨rfl, rfl⟩, meets rfl rfl, meets rfl ⟨rfl, rfl⟩,
    meets rfl ⟨rfl, by decide⟩⟩

/-- Times of 0, 1, 60,000 and 60,001 ms. -/
theorem test_witness_TimingIsConvertedAndClamped :
    let P (t : State) : Prop := t.body? .l1 = some (body .onTarget) ∧ (body .onTarget).link = none
    Meets 0x22 [laneByte (some .l1), 0, 0, 0, 0, 0, 0] (one (body .onTarget)) P ∧
    Meets 0x22 [laneByte (some .l1), 0, 1, 0xEA, 0x60, 0xEA, 0x61] (one (body .onTarget)) P :=
  ⟨meets rfl ⟨rfl, rfl⟩, meets rfl ⟨rfl, rfl⟩⟩

/-- Governor settings below and above their ranges; the largest amplitude and one more; a splice; 8 entries, in order and
not; a match length of 5 in the last entry; 4 watch entries of 4 bytes. -/
theorem test_witness_SettingMessagesReplaceTheirSettings :
    let P (t : State) : Prop := t.body? .l1 = some (body .trim)
    let e (high : PacketType) : List RouteEntry := List.replicate 8 { low := 5, high := high, cls := .carry }
    let w : List WatchEntry := List.replicate 4 { type := 5, bytes := [1, 2, 3, 4], action := .notify }
    let w5 : List Byte := [0, 1, 4, 0, 0, 0, 0, 0, 0, 1, 5, 0, 0, 0, 0, 3]
    Meets 0x23 [laneByte (some .l1), 0, 0, 0, 0, 0, 0, 0, 0, 0, 0] (one (body .trim)) P ∧
    Meets 0x23 [laneByte (some .l1), 0x80, 0, 0, 0xFF, 0xFF, 61, 251, 0x17, 0x71, 251] (one (body .trim)) P ∧
    Meets 0x26 [laneByte (some .l1), fillKindByte .tone, 0x7F, 0xFF, 0xFF, 0, 1] (one (body .trim)) P ∧
    Meets 0x26 [laneByte (some .l1), fillKindByte .silence, 0x80, 0, 0, 0, 1] (one (body .trim)) P ∧
    Meets 0x27 [laneByte (some .l1), boolByte true, 0xFF, 0xFF] (one (body .trim)) P ∧
    Meets 0x24 (laneByte (some .l1) :: (routeBytes { low := 0, high := 0, cls := .drop }).drop 4 ++ (e 5).flatMap routeBytes)
      (one (body .trim)) (fun t => P t ∧ (e 5).length ≤ 8) ∧
    Meets 0x24 (laneByte (some .l1) :: (routeBytes { low := 0, high := 0, cls := .drop }).drop 4 ++ (e 4).flatMap routeBytes)
      (one (body .trim)) (fun t => P t ∧ (e 4).length ≤ 8) ∧
    Meets 0x25 (laneByte (some .l1) :: w5) (one (body .trim)) (fun t => P t ∧ listedLength 0x25 (w5.length + 1) = true ∧
      argumentsOk (req 0x25 (laneByte (some .l1) :: w5)) = true ∧
      ∃ k, k < w5.length / 8 ∧ 4 < (w5.getD (8 * k + 2) 0).toNat) ∧
    Meets 0x25 (laneByte (some .l1) :: w.flatMap watchBytes) (one (body .trim))
      (fun t => P t ∧ w.length ≤ 4 ∧ ∀ e ∈ w, e.bytes.length ≤ 4) :=
  ⟨meets rfl rfl, meets rfl rfl, meets rfl rfl, meets rfl rfl, meets rfl rfl, meets rfl ⟨rfl, by decide⟩,
    meets rfl ⟨rfl, by decide⟩, meets rfl ⟨rfl, by decide, by decide, 1, by decide, by decide⟩,
    meets rfl ⟨rfl, by decide, by decide⟩⟩

/-- TIMING and EXIT, of an OFF lane and of a follower. -/
theorem test_witness_FollowersAndOffLanesRefuseCommands :
    let codes : List Byte := [0x22, 0x28, 0x29, 0x2A, 0x2B, 0x2C, 0x2D]
    let six : List Byte := List.replicate 6 0
    ((0x22 : Byte) ∈ codes ∧ listedLength 0x22 (six.length + 1) = true) ∧
    ((0x29 : Byte) ∈ codes ∧ listedLength 0x29 ([boolByte true].length + 1) = true) ∧
    Meets 0x22 (laneByte (some .l4) :: six) (two .drain 1) (fun t => t.body? .l4 = none) ∧
    Meets 0x29 [laneByte (some .l2), boolByte true] (two .drain 1) (fun t => (t.leaderOf? .l2).isSome = true) :=
  ⟨by decide, by decide, meets rfl rfl, meets rfl rfl⟩

/-! #### States, covers and cuts -/

theorem test_witness_StateChangesReachFollowers :
    (two .drain 1).body? .l1 = some (body .drain) ∧ (body .drain).link = none ∧ .l2 ∈ (two .drain 1).followersOf .l1 := by
  decide

theorem test_witness_EnterExitAndMarkActOnTheLane :
    let unset : LaneBody := { waiting (body .drain) with timing := { (body .drain).timing with target := none } }
    Meets 0x28 [laneByte (some .l1)] (one unset) (fun t => t.body? .l1 = some unset ∧ unset.link = none) ∧
    Meets 0x28 [laneByte (some .l1)] (one (body .pass)) (fun t => t.body? .l1 = some (body .pass) ∧ (body .pass).link = none) ∧
    Meets 0x29 [laneByte (some .l1), 0] (one (body .trim)) (fun t => t.body? .l1 = some (body .trim) ∧ (body .trim).link = none) ∧
    Meets 0x2B [laneByte (some .l1)] (one unset) (fun t => t.body? .l1 = some unset ∧ unset.link = none) :=
  ⟨meets rfl ⟨rfl, rfl⟩, meets rfl ⟨rfl, rfl⟩, meets rfl ⟨rfl, rfl⟩, meets rfl ⟨rfl, rfl⟩⟩

theorem test_witness_CoversFlagFramesAndReachFollowers :
    Meets 0x2D [laneByte (some .l1), boolByte true] (two .drain 1)
      (fun t => t.body? .l1 = some (body .drain) ∧ (body .drain).link = none) ∧
    Meets 0x2D [laneByte (some .l1), boolByte false] (one (coveredBy .control (body .pass)))
      (fun t => t.body? .l1 = some (coveredBy .control (body .pass)) ∧ (coveredBy .control (body .pass)).link = none) :=
  ⟨meets rfl ⟨rfl, rfl⟩, meets rfl ⟨rfl, rfl⟩⟩

theorem test_witness_LeaderCutIsMappedOnItsFollowers :
    (two .build 1).body? .l1 = some (body .build) ∧ (body .build).link = none ∧
    (two .build 1).body? .l2 = some (follower .build 1) ∧ .l2 ∈ (two .build 1).followersOf .l1 := by decide

/-- PASS; the dump size on a longer, on an equal and on a shorter line; each standing of the mark. -/
theorem test_witness_DumpsAndCutsToMark :
    let b := body .build
    let sized (n : Nat) : LaneBody := { b with timing := { b.timing with dump := { ms := 40 * n, frames := n } } }
    let line (x : LaneBody) (kept removed : List Record) (t : State) : Prop :=
      t.body? .l1 = some x ∧ x.link = none ∧ x.mode ≠ .pass ∧ x.dl.records = kept ++ removed
    Meets 0x2A [laneByte (some .l1)] (one (body .pass)) (fun t => t.body? .l1 = some (body .pass) ∧ (body .pass).link = none) ∧
    Meets 0x2A [laneByte (some .l1)] (one (sized 1)) (fun t => line (sized 1) [rec 5, rec 6] [rec 7] t ∧ 1 = min 1 b.h) ∧
    Meets 0x2A [laneByte (some .l1)] (one (sized 3)) (fun t => line (sized 3) [] [rec 5, rec 6, rec 7] t ∧ 3 = min 3 b.h) ∧
    Meets 0x2A [laneByte (some .l1)] (one (sized 4)) (fun t => line (sized 4) [] [rec 5, rec 6, rec 7] t ∧ 3 = min 4 b.h) ∧
    Meets 0x2C [laneByte (some .l1)] (one b) (fun t => line b [rec 5] [rec 6, rec 7] t ∧ b.dl.mark = none) ∧
    Meets 0x2C [laneByte (some .l1)] (one (marked .held 5 b)) (fun t => line (marked .held 5 b) [] [rec 5, rec 6, rec 7] t) ∧
    Meets 0x2C [laneByte (some .l1)] (one (marked .held 7 b)) (fun t => line (marked .held 7 b) [rec 5, rec 6] [rec 7] t ∧
      ∀ x ∈ [rec 5, rec 6], x.seq ≠ 7) ∧
    Meets 0x2C [laneByte (some .l1)] (one (marked .arriving 8 b))
      (fun t => line (marked .arriving 8 b) [rec 5, rec 6, rec 7] [] t) ∧
    Meets 0x2C [laneByte (some .l1)] (one (marked .pending 9 b))
      (fun t => line (marked .pending 9 b) [rec 5, rec 6, rec 7] [] t) ∧
    Meets 0x2C [laneByte (some .l1)] (one (marked (.gone .aired) 4 b))
      (fun t => line (marked (.gone .aired) 4 b) [] [rec 5, rec 6, rec 7] t) ∧
    Meets 0x2C [laneByte (some .l1)] (one (marked (.gone .removed) 5 b))
      (fun t => line (marked (.gone .removed) 5 b) [rec 5] [rec 6, rec 7] t ∧
        (∀ x ∈ [rec 5], ¬(1 ≤ (x.seq - 5).toNat ∧ (x.seq - 5).toNat ≤ 2147483647)) ∧
        ∀ x ∈ [rec 6, rec 7], 1 ≤ (x.seq - 5).toNat ∧ (x.seq - 5).toNat ≤ 2147483647) :=
  ⟨meets rfl ⟨rfl, rfl⟩, meets rfl ⟨⟨rfl, rfl, by decide, rfl⟩, rfl⟩, meets rfl ⟨⟨rfl, rfl, by decide, rfl⟩, rfl⟩,
    meets rfl ⟨⟨rfl, rfl, by decide, rfl⟩, rfl⟩, meets rfl ⟨⟨rfl, rfl, by decide, rfl⟩, rfl⟩,
    meets rfl ⟨rfl, rfl, by decide, rfl⟩, meets rfl ⟨⟨rfl, rfl, by decide, rfl⟩, by decide⟩,
    meets rfl ⟨rfl, rfl, by decide, rfl⟩, meets rfl ⟨rfl, rfl, by decide, rfl⟩, meets rfl ⟨rfl, rfl, by decide, rfl⟩,
    meets rfl ⟨⟨rfl, rfl, by decide, rfl⟩, by decide, by decide⟩⟩

theorem test_witness_ExitNowEmptiesTheLine :
    Meets 0x29 [laneByte (some .l1), 1] (one (body .pass)) (fun t => t.body? .l1 = some (body .pass) ∧ (body .pass).link = none) ∧
    Meets 0x29 [laneByte (some .l1), 1] (two .drain 1)
      (fun t => t.body? .l1 = some (body .drain) ∧ (body .drain).link = none ∧ (body .drain).mode ≠ .pass) :=
  ⟨meets rfl ⟨rfl, rfl⟩, meets rfl ⟨rfl, rfl, by decide⟩⟩

/-- Each view with the clear flag from the controller, and a view from the observer without it. -/
theorem test_witness_LaneStatusShowsTheLane :
    (∀ view ∈ ([0, 1, 2, 3] : List Byte), let body := [laneByte (some .l1), view, boolByte true]
      AsksEither (asked .a 0x30 body (two .drain 1)) .a (req 0x30 body) 0x30 body ∧
      (asked .a 0x30 body (two .drain 1)).link.controller = .a) ∧
    (AsksEither (asked .b 0x30 [laneByte (some .l1), 0, boolByte false] (two .drain 1)) .b
      (req 0x30 [laneByte (some .l1), 0, boolByte false]) 0x30 [laneByte (some .l1), 0, boolByte false] ∧ false ≠ true) :=
  ⟨fun _ _ => ⟨⟨(asks_asked _ _ rfl).1, rfl, rfl⟩, rfl⟩, ⟨(serves_observer _ _ rfl).1, rfl, rfl⟩, by decide⟩

/-! #### Frames in and out -/

/-- A line over its limit in PASS, at M, and one below M. -/
theorem test_witness_FullLineDiscardsTheHeads :
    let lane (m : Mode) (max : Nat) : LaneBody := { body m with maxH := max }
    ((one (lane .pass 8)).body? .l1 = some (lane .pass 8) ∧ (lane .pass 8).dl.records = [rec 5, rec 6] ++ [rec 7] ∧
      [rec 5, rec 6].length = 3 + 1 - 2) ∧
    ((one (lane .build 3)).body? .l1 = some (lane .build 3) ∧ (lane .build 3).dl.records = [rec 5] ++ [rec 6, rec 7] ∧
      [rec 5].length = (if (lane .build 3).h < 3 then 0 else (lane .build 3).h + 1 - 3)) ∧
    (lane .build 4).dl.records = [] ++ [rec 5, rec 6, rec 7] ∧
      ([] : List Record).length = (if (lane .build 4).h < 4 then 0 else (lane .build 4).h + 1 - 4) := by decide

/-- Sixteen channels, the most there are. -/
def delivery : Delivery := { audio := List.replicate 16 none, picture := 0, whole := true, audioPageFirst := false }

/-- An OFF lane; a frame in arrival; none, with the frame's page the last one free, on a lane and on a follower whose
discard-through value is its next-seq. -/
theorem test_witness_ArrivalStartTakesPagesAndSeq :
    let few (s : State) : State := { s with store := { s.store with free := [{ first := 9, more := 0 }] } }
    let one' := few (one (waiting (body .build)))
    let fb := waiting (follower .build 0)
    let fb' : LaneBody := { fb with intake := { fb.intake with discardThrough := some 9 } }
    let two' := few ((two .build 0).setBody .l2 (some fb'))
    delivery.ok = true ∧ State.reset.body? .l1 = none ∧
    ((one (body .pass)).body? .l1 = some (body .pass) ∧ (body .pass).intake.arrival = some (arriving 8)) ∧
    (∃ c, one'.body? .l1 = some (waiting (body .build)) ∧ (waiting (body .build)).intake.arrival = none ∧
      one'.leaderOf? .l1 ≠ some .l1 ∧ (one'.fullLineCheck .l1).body? .l1 = some c ∧
      1 ≤ (freeList (one'.fullLineCheck .l1).store.free).length) ∧
    ∃ c, two'.body? .l2 = some fb' ∧ fb'.intake.arrival = none ∧ two'.leaderOf? .l2 ≠ some .l2 ∧
      (two'.fullLineCheck .l2).body? .l2 = some c ∧ 1 ≤ (freeList (two'.fullLineCheck .l2).store.free).length :=
  ⟨by decide, rfl, ⟨rfl, rfl⟩, ⟨_, rfl, rfl, by decide, rfl, by decide⟩, _, rfl, rfl, by decide, rfl, by decide⟩

/-- A payload of 255 bytes; no lane; the 32nd packet and the 33rd. -/
theorem test_witness_PacketsAreRoutedAndWatched :
    let lane (n : Nat) : LaneBody :=
      { body .build with intake := { (body .build).intake with arrival := some { arriving 8 with accepted := n } } }
    (List.replicate 255 (0 : Byte)).length ≤ 255 ∧ (State.reset.body? .l1).bind (·.intake.arrival) = none ∧
    ((one (lane 31)).body? .l1 = some (lane 31) ∧ (lane 31).intake.arrival = some { arriving 8 with accepted := 31 } ∧ ¬32 ≤ 31) ∧
    (one (lane 32)).body? .l1 = some (lane 32) ∧ (lane 32).intake.arrival = some { arriving 8 with accepted := 32 } ∧ 32 ≤ 32 :=
  ⟨by rw [List.length_replicate], by decide⟩

theorem test_witness_CompletedFramesJoinTheLine :
    let dropping : LaneBody :=
      { body .drain with intake := { (body .drain).intake with arrival := some { arriving 8 with discard := true } } }
    delivery.ok = true ∧ ((one (waiting (body .pass))).body? .l1).bind (·.intake.arrival) = none ∧
    ((one (body .drain)).body? .l1 = some (body .drain) ∧ (body .drain).intake.arrival = some (arriving 8)) ∧
    (one dropping).body? .l1 = some dropping ∧ dropping.intake.arrival = some { arriving 8 with discard := true } := by decide

/-- Nothing due; the loss declared with nothing arriving, with a frame that no tick has seen, and with one that a tick has
seen; a fill on a lane and on a follower. -/
theorem test_witness_LostInputIsFilled :
    let lane (n : Nat) (loss : Bool) (a : Option InArrival) : LaneBody :=
      { body .build with intake := { (body .build).intake with ticksSince := n, loss := loss, arrival := a } }
    let old : InArrival := { arriving 8 with ticksSeen := 1 }
    ((one (lane 1 false none)).body? .l1 = some (lane 1 false none) ∧ ¬((1 = 2) ∧ false = false)) ∧
    ((one (lane 2 false none)).body? .l1 = some (lane 2 false none) ∧ (lane 2 false none).intake.arrival = none) ∧
    ((one (lane 2 false (some (arriving 8)))).body? .l1 = some (lane 2 false (some (arriving 8))) ∧ (arriving 8).ticksSeen = 0) ∧
    ((one (lane 3 true (some old))).body? .l1 = some (lane 3 true (some old)) ∧ old.ticksSeen ≠ 0) ∧
    (∃ c, ((two .build 0).fullLineCheck .l1).body? .l1 = some c ∧ (two .build 0).leaderOf? .l1 ≠ some .l1) ∧
    ∃ c, ((two .build 0).fullLineCheck .l2).body? .l2 = some c ∧ (two .build 0).leaderOf? .l2 ≠ some .l2 :=
  ⟨by decide, by decide, by decide, by decide, ⟨_, rfl, by decide⟩, _, rfl, by decide⟩

/-- An accepted configure; a lane at the last phase of its cadence. -/
theorem test_witness_EmittedAudioIsExact :
    (∃ t, Meets 0x20 (configure 1 0 0 false) State.reset (fun s => exec .laneConfigure s = .next t) ∧
      ((t.link.ports.get .a).replies.getLast?.any fun x => x.result == .ok || x.result == .clamped) = true) ∧
    4 < cadencePeriod 3 ∧ (one { body .build with fmt := { fmt with rate := 3 } }).body? .l1 =
      some { body .build with fmt := { fmt with rate := 3 } } :=
  ⟨⟨_, meets rfl rfl, rfl⟩, by decide, rfl⟩

/-- The largest amplitude; an empty line, and one with records. -/
theorem test_witness_TicksEmitTheFrameOfTheirAction :
    let empty : LaneBody := { body .build with dl := .fresh }
    (8388607 ≤ 8388607 ∧ 47 < 48 ∧ 24 ≤ 24 ∧ 23 < 24) ∧ ((one empty).body? .l1 = some empty ∧ empty.dl.records = []) ∧
    (one (body .build)).body? .l1 = some (body .build) ∧ (body .build).dl.records = rec 5 :: [rec 6, rec 7] := by decide

theorem test_witness_GovernorDecidesTheAction :
    (one (body .onTarget)).body? .l1 = some (body .onTarget) ∧ (body .onTarget).link = none := by decide

/-- A count that reaches the bound, and one at it; a follower at the end of its drain. -/
theorem test_witness_FollowersPayTheirLeadersActions :
    let k (n : Int) : FollowerLink := { leader := .l1, off := 0, pending := n, leaderMoved := true }
    ((two .build 7).body? .l2 = some (follower .build 7) ∧ (follower .build 7).link = some (k 7) ∧ Action.insert ≠ .nothing) ∧
    ((two .build (-8)).body? .l2 = some (follower .build (-8)) ∧ (follower .build (-8)).link = some (k (-8)) ∧
      Action.skip ≠ .nothing) ∧
    ((one (body .pass)).setBody .l2 (some (follower .drain (-1)))).body? .l2 = some (follower .drain (-1)) ∧
    (follower .drain (-1)).link = some (k (-1)) ∧ (k (-1)).leader ≠ .l2 := by decide

/-! #### The panel -/

/-- Lines 1 and 2 bound to COVER of lane 1 and line 3 to DUMP of lane 1, with these levels, counts and FIRED groups. -/
def lines (l0 l1 : Bool) (count : Nat) (fired : List GroupId) : State :=
  let line (f : InFunc) (level : Bool) : InLine := { func := f, mask := 1, inverted := false, length := 3, level := level, count := count }
  { one (body .build) with panel := { State.reset.panel with
      inputs := ((State.reset.panel.inputs.set 0 (line .cover l0)).set 1 (line .cover l1)).set 2 (line .dump false)
      fired := fired } }

/-- Lockout; a sample that agrees; the first and the last but one that differ; the last, of an unbound line, of a group FIRED,
of a group ARMED, of a member that another holds, and of the last active member; and the message's state. -/
theorem test_witness_PanelSamplesFireGroups :
    let g : GroupId := { func := .cover, mask := 1 }
    let x (s : State) : InLine := s.panel.inputs.get 0
    let locked : State := { State.reset with panel := { State.reset.panel with lockout := true } }
    let edge (s : State) (closed : Bool) : Prop :=
      s.panel.lockout = false ∧ (closed != (x s).inverted) ≠ (x s).level ∧ (x s).length ≤ (x s).count + 1
    let heldElsewhere (s : State) : Prop := ∃ j, j ≠ 0 ∧ (s.panel.inputs.get j).func = (x s).func ∧
      (s.panel.inputs.get j).mask = (x s).mask ∧ (s.panel.inputs.get j).level = true
    locked.panel.lockout = true ∧
    (x (lines false false 1 [])).level = false ∧
    ((x (lines false false 1 [])).length = 3 ∧ ¬3 ≤ (x (lines false false 1 [])).count + 1) ∧
    (edge State.reset true ∧ (x State.reset).func = .unbound) ∧
    (edge (lines false true 2 [g]) true ∧ g ∈ (lines false true 2 [g]).panel.fired) ∧
    (edge (lines false false 2 []) true ∧ (x (lines false false 2 [])).func ≠ .unbound ∧ g ∉ (lines false false 2 []).panel.fired) ∧
    (edge (lines true true 2 [g]) false ∧ heldElsewhere (lines true true 2 [g])) ∧
    (edge (lines true false 2 [g]) false ∧ g ∈ (lines true false 2 [g]).panel.fired ∧ ¬heldElsewhere (lines true false 2 [g])) ∧
    Meets 0x2A [laneByte (some .l1)] (one (body .build)) (fun t => t.leaderOf? .l1 = none ∧ (t.body? .l1).isSome = true) ∧
    Meets 0x29 [laneByte (some .l1), 0] (one (body .build)) (fun t => t.leaderOf? .l1 = none ∧ (t.body? .l1).isSome = true) :=
  ⟨by decide, by decide, by decide, by decide, by decide, by decide, by decide, by decide, meets rfl ⟨rfl, rfl⟩,
    meets rfl ⟨rfl, rfl⟩⟩

/-- A bad value; the observer; off under lockout, with a line of the longest filter. -/
theorem test_witness_LockoutOffResumesSampling :
    let locked : State := { State.reset with panel := { State.reset.panel with
      lockout := true, inputs := State.reset.panel.inputs.set 0 { InLine.reset with func := .enter, mask := 1, length := 32 } } }
    (2 ≤ (2 : Byte).toNat ∧ Meets 0x0A [2] locked fun _ => True) ∧
    (AsksEither (asked .b 0x0A [0] locked) .b (req 0x0A [0]) 0x0A [0] ∧ (asked .b 0x0A [0] locked).link.controller ≠ .b) ∧
    Meets 0x0A [0] locked (fun t => PanelKept t ∧ t.panel.lockout = true ∧ (t.panel.inputs.get 0).length = 32) := by
  refine ⟨⟨by decide, meets rfl trivial⟩, ⟨⟨(serves_observer _ _ rfl).1, rfl, rfl⟩, (serves_observer _ _ rfl).2⟩,
    meets rfl ⟨⟨by decide, fun g => ?_⟩, rfl, rfl⟩⟩
  obtain ⟨f, m⟩ := g
  revert m
  cases f <;> decide

/-- Filter lengths 0 and 33; a binding that re-arms its old group and one that does not. -/
theorem test_witness_LockoutAndBindingRearmGroups :
    let g : GroupId := { func := .cover, mask := 1 }
    let bind (n : Byte) : List Byte :=
      [BitVec.ofNat 8 ((0 : Fin 16).val + 1), BitVec.ofNat 8 (inFuncNo .mark), BitVec.ofNat 8 (3 : BitVec 4).toNat, boolByte true, n]
    let heldElsewhere (s : State) : Prop := ∃ j, j ≠ 0 ∧ (s.panel.inputs.get j).func = (s.panel.inputs.get 0).func ∧
      (s.panel.inputs.get j).mask = (s.panel.inputs.get 0).mask ∧ (s.panel.inputs.get j).level = true
    Meets 0x0A [1] (lines true true 2 [g]) (fun t => t.panel.lockout = false) ∧
    Meets 0x0B (bind 0) (lines true false 2 [g])
      (fun t => (t.panel.inputs.get 0).func ≠ .unbound ∧ g ∈ t.panel.fired ∧ ¬heldElsewhere t) ∧
    Meets 0x0B (bind 33) (lines true true 2 [g]) heldElsewhere := by
  refine ⟨meets rfl rfl, meets rfl ⟨by decide, by decide, ?_⟩, meets rfl ⟨1, by decide⟩⟩
  rintro ⟨j, h1, h2, h3, h4⟩
  revert j
  decide

/-- A lane function with a lane and without one; a drive; both views; a bad argument and a bad view; the observer. -/
theorem test_witness_OutputLinesShowTheirFunctions :
    let number (i : Fin 16) : Byte := BitVec.ofNat 8 (i.val + 1)
    Meets 0x0C [number 15, BitVec.ofNat 8 (outFuncNo .building), laneByte (some .l4), boolByte true] held (fun _ => True) ∧
    Meets 0x0C [number 0, BitVec.ofNat 8 (outFuncNo .building), laneByte none, boolByte true] held (fun _ => True) ∧
    Meets 0x0D [number 0, boolByte true, boolByte false, boolByte true] held (fun _ => True) ∧
    Meets 0x0E [0] held PanelKept ∧ Meets 0x0E [1] held (fun _ => True) ∧
    Meets 0x0C [17, 0, 0, 0] held (fun _ => argumentsOk (req 0x0C [17, 0, 0, 0]) = false) ∧
    Meets 0x0D [16, 0, 0, 2] held (fun _ => argumentsOk (req 0x0D [16, 0, 0, 2]) = false) ∧
    Meets 0x0E [2] held (fun _ => 2 ≤ (2 : Byte).toNat) ∧
    (AsksEither (asked .b 0x0C [1, 0, 0, 0] held) .b (req 0x0C [1, 0, 0, 0]) 0x0C [1, 0, 0, 0] ∧
      (asked .b 0x0C [1, 0, 0, 0] held).link.controller ≠ .b) :=
  ⟨meets rfl trivial, meets rfl trivial, meets rfl trivial, meets rfl held_panel, meets rfl trivial, meets rfl (by decide),
    meets rfl (by decide), meets rfl (by decide), ⟨(serves_observer _ _ rfl).1, rfl, rfl⟩, (serves_observer _ _ rfl).2⟩

end Sys2Proof.Tests
end

/-! PROOFS. The audio of every emitted frame (R100). Every operation of a tick but the emission keeps what a lane's audio
output depends on and shows; the emission sends one block that fits the output phase, and the phase advances. -/

namespace Sys2Proof.Machine

/-! ### The audio side of a lane, and what keeps it -/

/-- What the audio of a lane's output depends on and shows: its format, its output phase, what its output link carries and
its last emitted block. -/
def LaneBody.audible (b : LaneBody) : Format × Nat × Option Emitted × Option (List (List Sample)) :=
  (b.fmt, b.play.phase, b.play.output, b.play.lastBlock)

/-- The same of a lane of a state, absent in OFF. -/
def State.audible? (s : State) (l : Lane) : Option (Format × Nat × Option Emitted × Option (List (List Sample))) :=
  (s.body? l).map LaneBody.audible

theorem State.audible?_of_body {s : State} {l : Lane} {b : LaneBody} (h : s.body? l = some b) :
    s.audible? l = some b.audible := by
  rw [State.audible?, h, Option.map_some]

@[simp] theorem State.audible?_post (s : State) (x : Option Lane) (d : Detail) (k : Lane) :
    (s.post x d).audible? k = s.audible? k := rfl

@[simp] theorem State.audible?_freePages (s : State) (l : Lane) (ps : List PageNo) (k : Lane) :
    (s.freePages l ps).audible? k = s.audible? k := rfl

@[simp] theorem State.audible?_count (s : State) (l : Lane) (c : Counter) (n : Nat) (k : Lane) :
    (s.count l c n).audible? k = s.audible? k := by
  rw [State.audible?, State.body?_count, State.audible?]

@[simp] theorem State.body?_dropPackets (s : State) (l : Lane) (departure : Bool) (dropped : List Packet) (k : Lane) :
    (s.dropPackets l departure dropped).body? k = s.body? k := by
  rw [State.dropPackets_spec]
  cases k <;> cases l <;> rfl

@[simp] theorem State.audible?_dropPackets (s : State) (l : Lane) (departure : Bool) (dropped : List Packet) (k : Lane) :
    (s.dropPackets l departure dropped).audible? k = s.audible? k := by
  rw [State.audible?, State.body?_dropPackets, State.audible?]

/-- A body set that sounds as the lane did keeps the audio side of every lane. -/
theorem State.audible?_setBody {s : State} {l k : Lane} {b c : LaneBody} (h : s.audible? l = some b.audible)
    (same : c.audible = b.audible) : (s.setBody l (some c)).audible? k = s.audible? k := by
  by_cases hk : k = l
  · rw [hk, h, State.audible?_of_body (State.body?_setBody_self s l (some c)), same]
  · rw [State.audible?, State.body?_setBody_ne s _ hk, State.audible?]

/-- A change of bodies that leaves their audio side alone keeps that of every lane. -/
theorem State.audible?_modBody {s : State} {l k : Lane} {f : LaneBody → LaneBody} (same : ∀ b, (f b).audible = b.audible) :
    (s.modBody l f).audible? k = s.audible? k := by
  cases hb : s.body? l with
  | none => rw [State.modBody_of_none s l f hb]
  | some b =>
    rw [State.modBody_of_some s l f hb]
    exact State.audible?_setBody (State.audible?_of_body hb) (same b)

/-! ### Frame Intake's work at a tick -/

@[simp] theorem State.audible?_fullLineCheck (s : State) (l k : Lane) :
    (s.fullLineCheck l).audible? k = s.audible? k := by
  unfold State.fullLineCheck
  cases hb : s.body? l with
  | none => rfl
  | some b =>
    dsimp only
    have hset := State.audible?_of_body hb
    split
    · simp only [State.audible?_count, State.audible?_dropPackets, State.audible?_freePages]
      exact State.audible?_setBody hset rfl
    · rw [foldl_keeps (fun (u : State) (r : Record) => u.post (some l) (.overflow r.seq)) (·.audible? k) fun _ _ => rfl]
      simp only [State.audible?_count, State.audible?_dropPackets, State.audible?_freePages]
      exact State.audible?_setBody hset rfl

@[simp] theorem State.audible?_takeSeq (s : State) (l k : Lane) : (s.takeSeq l).audible? k = s.audible? k := by
  unfold State.takeSeq
  rw [foldl_keeps _ (fun u : State => u.audible? k)]
  · exact State.audible?_modBody fun _ => rfl
  · intro u f
    exact State.audible?_modBody fun _ => rfl

@[simp] theorem State.audible?_makeFill (s : State) (l k : Lane) : (s.makeFill l).audible? k = s.audible? k := by
  unfold State.makeFill
  rw [← State.audible?_fullLineCheck s l k]
  generalize s.fullLineCheck l = t
  dsimp only
  cases hb : t.body? l with
  | none => rfl
  | some b => exact (State.audible?_takeSeq _ l k).trans (State.audible?_setBody (State.audible?_of_body hb) rfl)

@[simp] theorem State.audible?_makeFills (s : State) (l k : Lane) (n : Nat) :
    (s.makeFills l n).audible? k = s.audible? k := by
  induction n generalizing s with
  | zero => rfl
  | succ n ih => exact (ih _).trans (State.audible?_makeFill s l k)

theorem State.audible?_abandon {s : State} {l k : Lane} {b c : LaneBody} {f : InArrival}
    (h : s.audible? l = some b.audible) (same : c.audible = b.audible) : (s.abandon l c f).audible? k = s.audible? k := by
  unfold State.abandon
  simp only [State.audible?_dropPackets, State.audible?_freePages]
  exact State.audible?_setBody h same

/-- Frame Intake's work at a tick keeps the audio side of every lane: the phase of the input has no effect on it. -/
@[simp] theorem State.audible?_intakeTick (s : State) (l k : Lane) : (s.intakeTick l).audible? k = s.audible? k := by
  unfold State.intakeTick
  cases hb : s.body? l with
  | none => rfl
  | some b =>
    dsimp only
    have posted : ∀ j, (if b.intake.declares then s.post (some l) (.input false) else s).audible? j = s.audible? j :=
      fun j => by split <;> rfl
    generalize (if b.intake.declares then s.post (some l) (.input false) else s) = u at posted ⊢
    have hu : u.audible? l = some b.audible := (posted l).trans (State.audible?_of_body hb)
    rw [← posted k]
    split
    · exact State.audible?_setBody hu rfl
    · split
      · exact (State.audible?_makeFills _ l k _).trans (State.audible?_setBody hu rfl)
      · split
        · exact State.audible?_setBody hu rfl
        · exact (State.audible?_makeFills _ l k _).trans (State.audible?_abandon hu rfl)

/-! ### The action settled at a tick -/

@[simp] theorem State.audible?_putMode (s : State) (l : Lane) (m : Mode) (cause : Cause) (k : Lane) :
    (s.putMode l m cause).audible? k = s.audible? k :=
  State.audible?_modBody fun _ => rfl

@[simp] theorem State.audible?_followMode (s : State) (f : Lane) (m : Mode) (k : Lane) :
    (s.followMode f m).audible? k = s.audible? k := by
  unfold State.followMode
  dsimp only
  split
  · refine Eq.trans (State.audible?_modBody ?_) (State.audible?_putMode s f m .leader k)
    exact fun _ => rfl
  · exact State.audible?_putMode s f m .leader k

@[simp] theorem State.audible?_changeMode (s : State) (l : Lane) (m : Mode) (cause : Cause) (k : Lane) :
    (s.changeMode l m cause).audible? k = s.audible? k := by
  unfold State.changeMode
  dsimp only
  rw [foldl_keeps _ (fun u : State => u.audible? k), State.audible?_putMode]
  intro u f
  split
  · rfl
  · split
    · rfl
    · exact State.audible?_followMode u f m k

@[simp] theorem State.audible?_adjustPending (s : State) (l f : Lane) (a : Action) (k : Lane) :
    (s.adjustPending l f a).audible? k = s.audible? k := by
  unfold State.adjustPending
  split
  · rfl
  · dsimp only
    split
    · exact State.audible?_modBody fun _ => rfl
    · rw [State.audible?_post, State.audible?_count]

@[simp] theorem State.audible?_handAction (s : State) (l : Lane) (a : Action) (k : Lane) :
    (s.handAction l a).audible? k = s.audible? k := by
  unfold State.handAction
  split
  · rfl
  · exact foldl_keeps _ (fun u : State => u.audible? k) (fun u f => State.audible?_adjustPending u l f a k) _ s

theorem State.audible?_independentAction {s : State} {l k : Lane} {b c : LaneBody}
    (h : s.audible? l = some b.audible) (same : c.audible = b.audible) :
    (s.independentAction l c).1.audible? k = s.audible? k := by
  unfold State.independentAction
  dsimp only
  split
  · exact State.audible?_setBody h same
  · split
    · exact (State.audible?_changeMode _ l _ _ k).trans (State.audible?_setBody h same)
    · rw [State.audible?_handAction]
      split
      · exact State.audible?_setBody h same
      · exact (State.audible?_changeMode _ l _ _ k).trans (State.audible?_setBody h same)

@[simp] theorem State.audible?_dropOwed (s : State) (f leader : Lane) (b : LaneBody) (k : Lane) :
    (s.dropOwed f leader b).audible? k = s.audible? k := by
  unfold State.dropOwed
  rw [State.audible?_post, State.audible?_count]
  exact State.audible?_modBody fun _ => rfl

@[simp] theorem State.audible?_endDrain (s : State) (f leader k : Lane) :
    (s.endDrain f leader).audible? k = s.audible? k := by
  unfold State.endDrain
  split
  · rfl
  · split
    · exact State.audible?_followMode s f .pass k
    · rfl

theorem State.audible?_followerAction {s : State} {f k : Lane} {b c : LaneBody} {link : FollowerLink}
    (h : s.audible? f = some b.audible) (same : c.audible = b.audible) :
    (s.followerAction f c link).1.audible? k = s.audible? k := by
  unfold State.followerAction
  dsimp only
  split
  · rw [State.audible?_endDrain, State.audible?_dropOwed]
    exact State.audible?_setBody h same
  · rw [State.audible?_endDrain]
    exact State.audible?_setBody h same

/-- The action of a tick, whatever it is, is settled without a change to the audio side of any lane. -/
theorem State.audible?_settleAction {s : State} {l : Lane} {b : LaneBody} (h : s.body? l = some b) (k : Lane) :
    (s.settleAction l b).1.audible? k = s.audible? k := by
  unfold State.settleAction
  dsimp only
  split
  · exact State.audible?_followerAction (State.audible?_of_body h) rfl
  · exact State.audible?_independentAction (State.audible?_of_body h) rfl

theorem State.audible?_skipHead {s : State} {l : Lane} {b : LaneBody} (h : s.body? l = some b) (k : Lane) :
    (s.skipHead l b).audible? k = s.audible? k := by
  unfold State.skipHead
  split
  · rfl
  · simp only [State.audible?_dropPackets, State.audible?_freePages]
    exact State.audible?_setBody (State.audible?_of_body h) rfl

/-! ### Blocks that fit the output phase -/

/-- A block has every configured channel, each of S(k) samples at the lane's output phase k (R100). -/
def LaneBody.Fits (b : LaneBody) (audio : List (List Sample)) : Prop :=
  audio.length = b.fmt.channels.toNat ∧ ∀ x ∈ audio, x.length = b.required

theorem length_fitChannel (n : Nat) (xs : List Sample) : (fitChannel n xs).length = n := by
  simp only [fitChannel, List.length_take, List.length_append, List.length_replicate]
  omega

theorem LaneBody.fits_fitBlock (b : LaneBody) (block : List (List Sample)) :
    b.Fits (fitBlock b.fmt.channels.toNat b.required block) := by
  refine ⟨by simp [fitBlock], fun x hx => ?_⟩
  obtain ⟨i, -, rfl⟩ := List.mem_map.mp hx
  exact length_fitChannel _ _

theorem LaneBody.fits_silence (b : LaneBody) : b.Fits (silence b.fmt.channels.toNat b.required) := by
  refine ⟨List.length_replicate, fun x hx => ?_⟩
  rw [List.eq_of_mem_replicate hx, List.length_replicate]

theorem LaneBody.fits_repeatAudio (b : LaneBody) : b.Fits b.repeatAudio := by
  unfold LaneBody.repeatAudio
  split
  · exact b.fits_silence
  · exact b.fits_fitBlock _

theorem LaneBody.fits_recordAudio (b : LaneBody) (r : Record) (d : Option Damage) : b.Fits (b.recordAudio r d) :=
  b.fits_fitBlock _

theorem LaneBody.length_fillSamples (b : LaneBody) (n : Nat) : (b.fillSamples n).length = n := by
  unfold LaneBody.fillSamples
  split
  · exact List.length_replicate
  · rw [List.length_map, List.length_range]

theorem LaneBody.fits_applyFill {b : LaneBody} {block : List (List Sample)} (h : b.Fits block) :
    b.Fits (b.applyFill block) := by
  obtain ⟨channels, samples⟩ := h
  refine ⟨by rw [LaneBody.applyFill, List.length_mapIdx, channels], fun x hx => ?_⟩
  obtain ⟨i, hi, rfl⟩ := List.mem_mapIdx.mp hx
  split
  · exact b.length_fillSamples _
  · exact samples _ (List.getElem_mem hi)

/-! ### The emission -/

/-- The lane `c` is the lane `b` after one emitted frame whose audio fits the phase of `b`: the phase has advanced, and the
audio on the output link is the last emitted block. -/
def LaneBody.EmitsExactly (b c : LaneBody) : Prop :=
  ∃ e : Emitted, c.audible = (b.fmt, (b.play.phase + 1) % cadencePeriod b.fmt.rate, some e, some e.audio) ∧ b.Fits e.audio

/-- Only the audio side of the lane before counts. -/
theorem LaneBody.EmitsExactly.of_audible {b b' c : LaneBody} (h : b'.EmitsExactly c) (hb : b'.audible = b.audible) :
    b.EmitsExactly c := by
  obtain ⟨hfmt, hphase, -, -⟩ : b'.fmt = b.fmt ∧ b'.play.phase = b.play.phase ∧
      b'.play.output = b.play.output ∧ b'.play.lastBlock = b.play.lastBlock := by
    simpa only [LaneBody.audible, Prod.mk.injEq] using hb
  simpa only [LaneBody.EmitsExactly, LaneBody.Fits, LaneBody.required, hfmt, hphase] using h

theorem LaneBody.emitsExactly_emit {b : LaneBody} {audio : List (List Sample)} (h : b.Fits audio) (video : Picture)
    (packets : List (PacketType × List Byte)) (level : Nat) : b.EmitsExactly (b.emit video audio packets level) :=
  ⟨_, rfl, h⟩

theorem LaneBody.emitsExactly_departed (b : LaneBody) (r : Record) (rest : List Record) (d : Option Damage) :
    b.EmitsExactly (b.departed r rest d) := by
  have fits : b.Fits (if b.fills r then b.applyFill (b.recordAudio r d) else b.recordAudio r d) := by
    split
    · exact LaneBody.fits_applyFill (b.fits_recordAudio r d)
    · exact b.fits_recordAudio r d
  exact ⟨_, rfl, fits⟩

theorem State.body?_emitRepeat (s : State) (l : Lane) (b : LaneBody) :
    (s.emitRepeat l b).body? l = some (b.emit b.holdPicture b.repeatAudio [] b.play.prevLevel) :=
  State.body?_setBody_self _ l _

/-- The body of a lane after a departure, or after an underrun on an empty line. -/
theorem State.body?_depart (s : State) (l : Lane) (b : LaneBody) :
    (s.depart l b).body? l = some (match b.dl.records with
      | [] => b.emit b.holdPicture b.repeatAudio [] b.play.prevLevel
      | r :: rest => b.departed r rest (s.store.damageOf b.fmt.vclass r)) := by
  unfold State.depart
  cases b.dl.records with
  | nil =>
    unfold State.underrun
    dsimp only
    rw [State.body?_post, State.body?_count, State.body?_emitRepeat]
  | cons r rest =>
    dsimp only
    generalize s.store.damageOf b.fmt.vclass r = d
    cases d <;> dsimp only <;> split <;>
      simp only [State.body?_post, State.body?_count, State.body?_freePages, State.body?_setBody_self]

theorem State.depart_emitsExactly (s : State) (l : Lane) (b : LaneBody) :
    ∃ c, (s.depart l b).body? l = some c ∧ b.EmitsExactly c := by
  refine ⟨_, State.body?_depart s l b, ?_⟩
  split
  · exact LaneBody.emitsExactly_emit b.fits_repeatAudio _ _ _
  · exact b.emitsExactly_departed _ _ _

theorem State.onBody_of_some {s : State} {l : Lane} {b : LaneBody} (h : s.body? l = some b)
    (f : State → LaneBody → State) : s.onBody l f = f s b := by
  rw [State.onBody, h]

/-- A state whose lane sounds as `b` does holds a body that sounds so. -/
theorem State.body?_of_audible? {s : State} {l : Lane} {b : LaneBody} (h : s.audible? l = some b.audible) :
    ∃ c, s.body? l = some c ∧ c.audible = b.audible :=
  Option.map_eq_some_iff.mp h

/-- Whatever the action, one exact frame is emitted (R90, step 3). -/
theorem State.emission_emitsExactly {s : State} {l : Lane} {b : LaneBody} (h : s.body? l = some b) (a : Action) :
    ∃ c, (s.emission l a).body? l = some c ∧ b.EmitsExactly c := by
  unfold State.emission
  cases a with
  | insert =>
    dsimp only
    rw [State.onBody_of_some h]
    exact ⟨_, State.body?_emitRepeat s l b, LaneBody.emitsExactly_emit b.fits_repeatAudio _ _ _⟩
  | skip =>
    dsimp only
    obtain ⟨b', hb', same⟩ := State.body?_of_audible? ((State.audible?_skipHead h l).trans (State.audible?_of_body h))
    obtain ⟨c, hc, emits⟩ := State.depart_emitsExactly (s.skipHead l b) l b'
    rw [State.onBody_of_some h, State.onBody_of_some hb']
    exact ⟨c, hc, emits.of_audible same⟩
  | nothing =>
    dsimp only
    rw [State.onBody_of_some h]
    exact State.depart_emitsExactly s l b

theorem State.playTick_emitsExactly {s : State} {l : Lane} {b : LaneBody} (h : s.body? l = some b) :
    ∃ c, (s.playTick l).body? l = some c ∧ b.EmitsExactly c := by
  unfold State.playTick
  rw [State.onBody_of_some h]
  obtain ⟨b', hb', same⟩ := State.body?_of_audible? ((State.audible?_settleAction h l).trans (State.audible?_of_body h))
  obtain ⟨c, hc, emits⟩ := State.emission_emitsExactly hb' (s.settleAction l b).2
  exact ⟨c, hc, emits.of_audible same⟩

/-- A tick of a configured lane emits one exact frame, with Frame Intake's work before or after it. -/
theorem State.laneTick_emitsExactly {s : State} {l : Lane} {b : LaneBody} (h : s.body? l = some b) (intakeFirst : Bool) :
    ∃ c, (s.laneTick l intakeFirst).body? l = some c ∧ b.EmitsExactly c := by
  cases intakeFirst with
  | true =>
    obtain ⟨b', hb', same⟩ := State.body?_of_audible? ((State.audible?_intakeTick s l l).trans (State.audible?_of_body h))
    obtain ⟨c, hc, emits⟩ := State.playTick_emitsExactly hb'
    exact ⟨c, hc, emits.of_audible same⟩
  | false =>
    obtain ⟨c, hc, e, heard, fits⟩ := State.playTick_emitsExactly h
    obtain ⟨c', hc', same⟩ := State.body?_of_audible?
      ((State.audible?_intakeTick (s.playTick l) l l).trans (State.audible?_of_body hc))
    exact ⟨c', hc', e, same.trans heard, fits⟩

/-! ### The output phase after a configure -/

/-- A result that says a message was carried out. -/
def Result.accepts (r : Result) : Bool := r == .ok || r == .clamped

/-- The last reply of a port is the one just placed there. -/
theorem State.accepts_reply (s : State) (p : Port) (r : Request) (a : Answer) :
    ((s.reply p r a).link.ports.get p).replies.getLast?.any (·.result.accepts) = a.result.accepts := by
  rw [State.reply, State.ports_modPort_self, List.getLast?_concat, Option.any_some]

/-- A request whose reply says it was carried out has passed the executor's checks, and its handler answered so. -/
theorem State.execute_accepted {s : State} {isRow : Request → Bool} {lengthOk : Nat → Bool}
    {permitted : State → Port → List Byte → Bool} {h : Handler} {p : Port} {r : Request}
    (hs : s.nextRequest = some (p, r)) (hr : isRow r = true)
    (ha : ((s.execute isRow lengthOk permitted h).link.ports.get p).replies.getLast?.any (·.result.accepts) = true) :
    (h (s.takeRequest p) p r.body).2.result.accepts = true ∧
      s.execute isRow lengthOk permitted h =
        (h (s.takeRequest p) p r.body).1.reply p r (h (s.takeRequest p) p r.body).2 := by
  cases hl : lengthOk r.body.length with
  | false =>
    rw [State.execute_bad_length hs hr hl, State.accepts_reply] at ha
    exact absurd ha (by decide)
  | true =>
    cases hp : permitted (s.takeRequest p) p r.body with
    | false =>
      rw [State.execute_not_permitted hs hr hl hp, State.accepts_reply] at ha
      exact absurd ha (by decide)
    | true =>
      rw [State.execute_handled hs hr hl hp, State.accepts_reply] at ha
      exact ⟨ha, State.execute_handled hs hr hl hp⟩

/-- A configure that is carried out, from OFF or of a configured lane, leaves the lane at output phase 0. -/
theorem State.configure_phase {s : State} {l : Lane} {fmt : Format} {n : Nat} {force : Bool}
    (h : (s.configure l fmt n force).2.result.accepts = true) :
    ∃ b, (s.configure l fmt n force).1.body? l = some b ∧ b.play.phase = 0 := by
  unfold State.configure at h ⊢
  cases hb : s.body? l with
  | none =>
    simp only [hb] at h ⊢
    split at h
    · exact absurd h Bool.false_ne_true
    · next available =>
      rw [if_neg available]
      refine ⟨.fresh fmt (maxRecords (max n (6 * pagesPerFrame fmt.vclass)) fmt.vclass), ?_, rfl⟩
      rw [State.body?_post, State.body?_setBudget, State.body?, PerLane.get_set_self]
  | some b =>
    simp only [hb] at h ⊢
    split at h
    · exact absurd h Bool.false_ne_true
    · next unlinked =>
      split at h
      · exact absurd h Bool.false_ne_true
      · next idle =>
        split at h
        · exact absurd h Bool.false_ne_true
        · next available =>
          rw [if_neg unlinked, if_neg idle, if_neg available]
          refine ⟨b.reconfigured fmt (maxRecords (max n (6 * pagesPerFrame fmt.vclass)) fmt.vclass), ?_, rfl⟩
          rw [State.body?_post, State.body?_setBudget, State.body?_freePages, State.body?_setBody_self]

/-- A LANE_CONFIGURE message that is carried out leaves its lane at output phase 0. -/
theorem configureMessage_phase {s : State} {p : Port} {l : Lane} {body : List Byte}
    (h : (configureMessage s p (laneByte (some l) :: body)).2.result.accepts = true) :
    ∃ b, (configureMessage s p (laneByte (some l) :: body)).1.body? l = some b ∧ b.play.phase = 0 := by
  unfold configureMessage at h ⊢
  split at h
  · next lane r v c b2 b1 b0 f hbody =>
    obtain ⟨rfl, rfl⟩ := List.cons.inj hbody
    simp only [withLane, laneOf_laneByte] at h ⊢
    split at h
    · exact State.configure_phase h
    · exact absurd h Bool.false_ne_true
  · exact absurd h Bool.false_ne_true

/-! ### The cadence -/

/-- The cadence of each rate is the manual's table (1.1). -/
theorem cadence_table (r : Fin 8) : (List.range (cadencePeriod r)).map (cadence r) =
    ([[2002], [2000], [1920], [1601, 1602, 1601, 1602, 1602], [1600], [960], [800, 801, 801, 801, 801], [800]] :
      List (List Nat)).getD r.val [] := by
  revert r
  decide

/-- From whichever phase it starts, a cycle of a cadence carries the same number of samples. -/
theorem cadence_cycle (r : Fin 8) (k : Nat) (h : k < cadencePeriod r) :
    ((List.range (cadencePeriod r)).map fun i => cadence r ((k + i) % cadencePeriod r)).sum =
      ([2002, 2000, 1920, 8008, 1600, 960, 4004, 800] : List Nat).getD r.val 0 := by
  revert r k
  decide

end Sys2Proof.Machine

section

open Sys2Proof Sys2Proof.Machine

/-- Settles O53: nothing of a tick but the emission touches the audio side of a lane, and the emission sends a block that
fits the phase. -/
theorem emittedAudioIsExact : Obligations.EmittedAudioIsExact := by
  refine ⟨fun _ _ => rfl, cadence_table, cadence_cycle, ?configured, ?ticks⟩
  case configured =>
    intro s t p r l body asks hexec accepted
    obtain ⟨serves, -, hcode, hbody⟩ := asks
    obtain rfl : s.execute (hasCode 0x20) (lengthIs 8) controllerOnly configureMessage = t := Host.Outcome.next.inj hexec
    obtain ⟨answered, eq⟩ := State.execute_accepted serves (by simp [hasCode, hcode]) accepted
    rw [hbody] at answered eq
    rw [eq, State.body?_reply]
    exact configureMessage_phase answered
  case ticks =>
    intro s l intakeFirst b hb
    obtain ⟨c, hc, e, heard, channels, samples⟩ := State.laneTick_emitsExactly hb intakeFirst
    obtain ⟨hfmt, hphase, hout, hlast⟩ : c.fmt = b.fmt ∧ c.play.phase = (b.play.phase + 1) % cadencePeriod b.fmt.rate ∧
        c.play.output = some e ∧ c.play.lastBlock = some e.audio := by
      simpa only [LaneBody.audible, Prod.mk.injEq] using heard
    exact ⟨_, c, e, rfl, hc, hfmt, hphase, hout, channels, samples, hlast⟩

end

/-! PROOFS. The panel's lockout off and its output lines (R159 to R162). What a message does once the executor's checks are
passed; the lane operations leave the panel alone; the samples of one line; what an output line shows; the status bytes. -/

namespace Sys2Proof.Machine

/-! ### A request once the executor has looked at its length and sender -/

/-- The controller's message of a row and a listed length is answered by its handler (R170, check 4). -/
theorem State.execute_asks {s : State} {p : Port} {r : Request} {code : Byte} {body : List Byte} {isRow : Request → Bool}
    {lengthOk : Nat → Bool} {h : Handler} {effect : State → State} {result : Result} {answer : List Byte}
    (asks : Asks s p r code body) (row : isRow r = true) (length : lengthOk body.length = true)
    (handled : h (s.takeRequest p) p body = (effect (s.takeRequest p), { result := result, body := answer })) :
    s.execute isRow lengthOk controllerOnly h = served s p r effect result answer := by
  obtain ⟨serves, controls, -, rfl⟩ := asks
  exact State.execute_served serves row length ((State.controls_iff s p).mpr controls) handled

/-- A message that either port may send is answered by its handler. -/
theorem State.execute_asksEither {s : State} {p : Port} {r : Request} {code : Byte} {body : List Byte}
    {isRow : Request → Bool} {lengthOk : Nat → Bool} {h : Handler} {effect : State → State} {result : Result}
    {answer : List Byte} (asks : AsksEither s p r code body) (row : isRow r = true) (length : lengthOk body.length = true)
    (handled : h (s.takeRequest p) p body = (effect (s.takeRequest p), { result := result, body := answer })) :
    s.execute isRow lengthOk eitherPort h = served s p r effect result answer := by
  obtain ⟨serves, -, rfl⟩ := asks
  exact State.execute_served serves row length rfl handled

/-- The observer's message is refused NOT_CONTROLLER where only the controller may send it (R170, check 3). -/
theorem State.execute_observer {s : State} {p : Port} {r : Request} {code : Byte} {body : List Byte}
    {isRow : Request → Bool} {lengthOk : Nat → Bool} {h : Handler} (asks : AsksEither s p r code body)
    (observer : s.link.controller ≠ p) (row : isRow r = true) (length : lengthOk body.length = true) :
    s.execute isRow lengthOk controllerOnly h = served s p r id .notController [] := by
  obtain ⟨serves, -, rfl⟩ := asks
  have denied : controllerOnly (s.takeRequest p) p r.body = false := by
    simpa [controllerOnly, State.controls] using observer
  exact State.execute_not_permitted serves row length denied

theorem hasCode_of_code {r : Request} {code : Byte} (h : r.code = code) : hasCode code r = true := by simp [hasCode, h]

/-! ### The lane operations that a firing reaches leave the panel alone -/

@[simp] theorem State.dropPackets_panel (s : State) (l : Lane) (departure : Bool) (dropped : List Packet) :
    (s.dropPackets l departure dropped).panel = s.panel := by
  rw [State.dropPackets_spec]

@[simp] theorem State.cut_panel (s : State) (l : Lane) (b : LaneBody) (kind : CutKind) (kept removed : List Record)
    (takeArrival mapped : Bool) : (s.cut l b kind kept removed takeArrival mapped).1.panel = s.panel := by
  simp [State.cut]

@[simp] theorem State.mapCut_panel (s : State) (f : Lane) (kind : CutKind) (first last : Seq) :
    (s.mapCut f kind first last).panel = s.panel := by
  unfold State.mapCut
  split
  · rfl
  · split
    · rfl
    · exact State.cut_panel _ _ _ _ _ _ _ _

@[simp] theorem State.leadCut_panel (s : State) (l : Lane) (b : LaneBody) (kind : CutKind) (kept removed : List Record)
    (takeArrival : Bool) : (s.leadCut l b kind kept removed takeArrival).1.panel = s.panel := by
  unfold State.leadCut
  dsimp only
  split
  · exact State.cut_panel _ _ _ _ _ _ _ _
  · rw [foldl_keeps _ State.panel fun _ _ => State.mapCut_panel _ _ _ _ _, State.cut_panel]

@[simp] theorem State.addSource_panel (s : State) (l : Lane) (src : CoverSource) :
    (s.addSource l src).panel = s.panel := by
  unfold State.addSource
  dsimp only
  split
  · rw [foldl_keeps _ State.panel fun u f => State.modBody_panel u f _, State.modBody_panel]
  · exact State.modBody_panel _ _ _

@[simp] theorem State.followMode_panel (s : State) (f : Lane) (m : Mode) : (s.followMode f m).panel = s.panel := by
  unfold State.followMode
  dsimp only
  split <;> rfl

@[simp] theorem State.changeMode_panel (s : State) (l : Lane) (m : Mode) (cause : Cause) :
    (s.changeMode l m cause).panel = s.panel := by
  unfold State.changeMode
  dsimp only
  rw [foldl_keeps _ State.panel, State.putMode_panel]
  intro u f
  split
  · rfl
  · split
    · rfl
    · exact State.followMode_panel u f m

/-- A message on a lane that is no follower leaves the panel alone when its effect on the lane does. -/
theorem onIndependent_panel {s : State} {l : Lane} {k : LaneBody → State × Answer}
    (h : ∀ b, (k b).1.panel = s.panel) : (onIndependent s l k).1.panel = s.panel := by
  unfold onIndependent onConfigured
  split
  · rfl
  · dsimp only
    split
    · rfl
    · exact h _

@[simp] theorem State.dump_panel (s : State) (l : Lane) : (s.dump l).1.panel = s.panel := by
  refine onIndependent_panel fun b => ?_
  split
  · rfl
  · exact State.leadCut_panel _ _ _ _ _ _ _

@[simp] theorem State.cutToMark_panel (s : State) (l : Lane) : (s.cutToMark l).1.panel = s.panel := by
  refine onIndependent_panel fun b => ?_
  split
  · rfl
  · split
    · rfl
    · exact State.leadCut_panel _ _ _ _ _ _ _

@[simp] theorem State.setMark_panel (s : State) (l : Lane) : (s.setMark l).1.panel = s.panel :=
  onIndependent_panel fun _ => rfl

@[simp] theorem State.exitGentle_panel (s : State) (l : Lane) (cause : Cause) :
    (s.exitGentle l cause).1.panel = s.panel := by
  refine onIndependent_panel fun b => ?_
  cases b.mode with
  | pass | drain => rfl
  | build | onTarget | trim => exact State.changeMode_panel _ _ _ _

@[simp] theorem State.enter_panel (s : State) (l : Lane) (cause : Cause) : (s.enter l cause).1.panel = s.panel := by
  refine onIndependent_panel fun b => ?_
  dsimp only
  split
  · rfl
  · rfl
  · exact State.changeMode_panel _ _ _ _
  · split <;> exact State.changeMode_panel _ _ _ _
  · rfl

/-- A panel function fired on a lane changes no line and no group (R155). -/
@[simp] theorem State.panelAction_panel (s : State) (func : InFunc) (l : Lane) :
    (s.panelAction func l).panel = s.panel := by
  unfold State.panelAction State.onReached
  split
  · rfl
  · split
    · rfl
    · cases func with
      | unbound => rfl
      | dump => exact State.dump_panel s l
      | cover => exact State.addSource_panel s l .panel
      | mark => exact State.setMark_panel s l
      | cutToMark => exact State.cutToMark_panel s l
      | enter => exact State.enter_panel s l .panel
      | exit => exact State.exitGentle_panel s l .panel

/-- A firing marks its group FIRED, and changes nothing else of the panel. -/
@[simp] theorem State.fireGroup_panel (s : State) (g : GroupId) (i : Fin 16) :
    (s.fireGroup g i).panel = { s.panel with fired := s.panel.fired ++ [g] } := by
  unfold State.fireGroup
  rw [State.post_panel, foldl_keeps _ State.panel fun u l => State.panelAction_panel u g.func l]

/-! ### Input lines -/

theorem InLine.group_of_bound {x : InLine} (h : x.func ≠ .unbound) : x.group = some { func := x.func, mask := x.mask } :=
  if_neg h

theorem Panel.isFired_iff (p : Panel) (g : GroupId) : p.isFired g = true ↔ g ∈ p.fired := by simp [Panel.isFired]

/-- No line's level changes as its group takes an active edge. -/
theorem State.takeEdge_active_inputs (s : State) (i : Fin 16) : (s.takeEdge i true).panel.inputs = s.panel.inputs := by
  unfold State.takeEdge
  split
  · rfl
  · rw [if_pos rfl]
    split
    · rfl
    · rw [State.fireGroup_panel]

/-- After an active edge the line's group is FIRED (R154). -/
theorem State.takeEdge_active_fired {s : State} {i : Fin 16} {g : GroupId} (h : (s.panel.inputs.get i).group = some g) :
    g ∈ (s.takeEdge i true).panel.fired := by
  simp only [State.takeEdge, h, if_true]
  split
  · next fired => exact (Panel.isFired_iff _ _).mp fired
  · simp

@[simp] theorem State.inputs_setInput_self (s : State) (i : Fin 16) (x : InLine) :
    (s.setInput i x).panel.inputs.get i = x := by
  simp [State.setInput, Vector.get_eq_getElem]

@[simp] theorem State.setInput_setInput (s : State) (i : Fin 16) (x y : InLine) :
    (s.setInput i x).setInput i y = s.setInput i y := by
  simp [State.setInput]

@[simp] theorem State.setInput_get (s : State) (i : Fin 16) : s.setInput i (s.panel.inputs.get i) = s := by
  simp [State.setInput, Vector.get_eq_getElem]

/-- No line is active while lockout is on, so that no group is FIRED (R154, R158). -/
theorem PanelKept.fired_of_lockout {s : State} (kept : PanelKept s) (lockout : s.panel.lockout = true) :
    s.panel.fired = [] := by
  obtain ⟨lines, groups⟩ := kept
  refine List.eq_nil_iff_forall_not_mem.mpr fun g hg => ?_
  obtain ⟨x, hx, active⟩ := List.any_eq_true.mp ((groups g).mp hg)
  obtain ⟨k, hk, rfl⟩ := Vector.mem_iff_getElem.mp (Vector.mem_toList_iff.mp hx)
  obtain ⟨-, -, -, quiet⟩ := lines ⟨k, hk⟩
  simp [← Vector.get_eq_getElem _ ⟨k, hk⟩, quiet lockout] at active

/-! ### A line held pressed -/

/-- The electrical level of a pressed line, whatever its polarity, reads as active (R152). -/
theorem InLine.logical_pressed (x : InLine) : x.logical (!x.inverted) = true := by
  cases h : x.inverted <;> simp [InLine.logical, h]

/-- A pressed sample of an inactive line, with the count still short of N, is counted. -/
theorem State.sampleLine_pressed_short {s : State} {i : Fin 16} {x : InLine} (hx : s.panel.inputs.get i = x)
    (inactive : x.level = false) (short : x.count + 1 < x.length) :
    s.sampleLine i (!x.inverted) = s.setInput i { x with count := x.count + 1 } := by
  have noEdge : x.edges (!x.inverted) = false := by
    simp [InLine.edges, Nat.not_le.mpr short]
  simp [State.sampleLine, hx, InLine.logical_pressed, inactive, noEdge]

/-- The N-th pressed sample of an inactive line is an active edge. -/
theorem State.sampleLine_pressed_last {s : State} {i : Fin 16} {x : InLine} (hx : s.panel.inputs.get i = x)
    (inactive : x.level = false) (last : x.count + 1 = x.length) :
    s.sampleLine i (!x.inverted) = (s.setInput i { x with level := true, count := 0 }).takeEdge i true := by
  have edge : x.edges (!x.inverted) = true := by
    simp [InLine.edges, InLine.logical_pressed, inactive, last]
  simp [State.sampleLine, hx, InLine.logical_pressed, inactive, edge]

theorem exec_panelSample_unlocked {s : State} (h : s.panel.lockout = false) (i : Fin 16) (closed : Bool) :
    exec (.panelSample i closed) s = .next (s.sampleLine i closed) := by
  show execPanelSample i closed s = _
  simp [execPanelSample, h]

theorem runCommands_cons {c : Instr} {cs : List Instr} {s t : State} (h : exec c s = .next t) :
    runCommands (c :: cs) s = runCommands cs t := by
  simp [runCommands, h]

theorem runCommands_append {cs ds : List Instr} {s t : State} (h : runCommands cs s = .next t) :
    runCommands (cs ++ ds) s = runCommands ds t := by
  induction cs generalizing s with
  | nil => cases h; rfl
  | cons c cs ih =>
    cases hc : exec c s with
    | next u =>
      rw [runCommands_cons hc] at h
      rw [List.cons_append, runCommands_cons hc, ih h]
    | fault _ | refused _ => simp [runCommands, hc] at h

/-- Fewer than N pressed samples of an inactive line are counted, and nothing else changes (R152). -/
theorem runCommands_pressed_short {i : Fin 16} {n : Nat} {s : State} {x : InLine} (unlocked : s.panel.lockout = false)
    (hx : s.panel.inputs.get i = x) (inactive : x.level = false) (short : x.count + n < x.length) :
    runCommands (List.replicate n (.panelSample i (!x.inverted))) s = .next (s.setInput i { x with count := x.count + n }) := by
  induction n generalizing s x with
  | zero => subst hx; exact congrArg Host.Outcome.next (State.setInput_get s i).symm
  | succ n ih =>
    have sampled := State.sampleLine_pressed_short hx inactive (by omega)
    rw [List.replicate_succ, runCommands_cons (exec_panelSample_unlocked unlocked i _), sampled]
    have rest := ih (s := s.setInput i { x with count := x.count + 1 }) unlocked (State.inputs_setInput_self _ _ _)
      inactive (by dsimp only; omega)
    rw [rest, State.setInput_setInput, Nat.add_assoc, Nat.add_comm 1 n]

/-- N pressed samples of an inactive line end in its active edge (R152). -/
theorem runCommands_pressed_last {i : Fin 16} {n : Nat} {s : State} {x : InLine} (unlocked : s.panel.lockout = false)
    (hx : s.panel.inputs.get i = x) (inactive : x.level = false) (last : x.count + n + 1 = x.length) :
    runCommands (List.replicate (n + 1) (.panelSample i (!x.inverted))) s =
      .next ((s.setInput i { x with level := true, count := 0 }).takeEdge i true) := by
  rw [List.replicate_succ', runCommands_append (runCommands_pressed_short unlocked hx inactive (by omega)),
    runCommands_cons (exec_panelSample_unlocked (s := s.setInput i _) unlocked i _)]
  have edge := State.sampleLine_pressed_last (s := s.setInput i { x with count := x.count + n })
    (State.inputs_setInput_self _ _ _) inactive last
  rw [edge, State.setInput_setInput, runCommands]

/-- A line pressed from inactive with its count at 0 is active after N samples and not before, and its group is then FIRED
(R152, R154). -/
theorem pressed_active_after_length {i : Fin 16} {n : Nat} {s : State} {x : InLine} (unlocked : s.panel.lockout = false)
    (hx : s.panel.inputs.get i = x) (inactive : x.level = false) (uncounted : x.count = 0) (positive : 1 ≤ x.length)
    (within : n ≤ x.length) :
    ∃ u : State, runCommands (List.replicate n (.panelSample i (!x.inverted))) s = .next u ∧
      ((u.panel.inputs.get i).level = true ↔ n = x.length) ∧
      (n = x.length → x.func ≠ .unbound → { func := x.func, mask := x.mask } ∈ u.panel.fired) := by
  rcases Nat.lt_or_eq_of_le within with short | full
  · refine ⟨_, runCommands_pressed_short unlocked hx inactive (by omega), ?_, fun full => absurd full short.ne⟩
    simp [inactive, short.ne]
  · obtain ⟨m, rfl⟩ : ∃ m, n = m + 1 := ⟨n - 1, by omega⟩
    refine ⟨_, runCommands_pressed_last unlocked hx inactive (by omega), ?_, fun _ bound => ?_⟩
    · simp [State.takeEdge_active_inputs, full]
    · exact State.takeEdge_active_fired (by rw [State.inputs_setInput_self]; exact InLine.group_of_bound bound)

/-! ### The PANEL_LOCK message -/

theorem boolOf_eq_none {v : Byte} (h : 2 ≤ v.toNat) : boolOf v = none := by
  rw [boolOf, if_neg (by rintro rfl; simp at h), if_neg (by rintro rfl; simp at h)]

theorem lockMessage_off (s : State) (p : Port) : lockMessage s p [0] = (s.lockOff, .ok [0]) := rfl

theorem lockMessage_bad (s : State) (p : Port) {v : Byte} (h : 2 ≤ v.toNat) :
    lockMessage s p [v] = (s, .refuse .badArgument) := by
  simp [lockMessage, boolOf_eq_none h]

/-- PANEL_LOCK's off row takes every request but one to turn lockout on. -/
theorem isLockOffRow {r : Request} {v : Byte} (code : r.code = 0x0A) (body : r.body = [v]) (h : v ≠ 1) :
    hasForm 0x0A 1 0 r = true := by
  simpa [hasForm, code, body] using h

end Sys2Proof.Machine

section

open Sys2Proof Sys2Proof.Machine

/-- Settles O58: the handler clears the flag alone, and a held line then runs through its filter from 0. -/
theorem lockoutOffResumesSampling : Obligations.LockoutOffResumesSampling := by
  intro s p r
  refine ⟨fun v hv asks => ?bad, fun asks observer => ?observer, fun asks => ?off⟩
  case bad =>
    have ⟨_, _, code, body⟩ := asks
    have row := isLockOffRow code body (by rintro rfl; simp at hv)
    exact congrArg Host.Outcome.next (State.execute_asks asks row rfl (lockMessage_bad _ p hv))
  case observer =>
    have ⟨_, code, body⟩ := asks
    have row := isLockOffRow code body (by decide)
    exact congrArg Host.Outcome.next (State.execute_observer asks observer row rfl)
  case off =>
    have ⟨_, _, code, body⟩ := asks
    have row := isLockOffRow code body (by decide)
    refine ⟨congrArg Host.Outcome.next (State.execute_asks asks row rfl (lockMessage_off _ p)), ?_, fun kept lockout => ?_⟩
    · intro o locked
      rw [State.funcValue, locked]
      rfl
    · have ⟨lines, _⟩ := kept
      have quiet (i : Fin 16) : (s.panel.inputs.get i).level = false ∧ (s.panel.inputs.get i).count = 0 := by
        obtain ⟨-, -, -, quiet⟩ := lines i
        exact quiet lockout
      refine ⟨quiet, kept.fired_of_lockout lockout, fun i n within => ?_⟩
      obtain ⟨inactive, uncounted⟩ := quiet i
      obtain ⟨positive, -⟩ := lines i
      exact pressed_active_after_length rfl rfl inactive uncounted positive within

end

/-! PROOFS. The output lines, and the panel's status (R160 to R162, R182). -/

namespace Sys2Proof.Machine

/-! ### Operand bytes -/

@[simp] theorem lineOf_lineByte (i : Fin 16) : lineOf (lineByte i) = some i := by revert i; decide

@[simp] theorem outFuncOf_outFuncNo (f : OutFunc) : outFuncOf (BitVec.ofNat 8 (outFuncNo f)) = some f := by
  cases f <;> decide

@[simp] theorem outLaneOf_laneByte (l : Option Lane) : outLaneOf (laneByte l) = some l := by
  rcases l with _ | l
  · rfl
  · cases l <;> decide

theorem eq_lineByte_of_lineOf {b : Byte} {i : Fin 16} (h : lineOf b = some i) : b = lineByte i := by
  unfold lineOf at h
  split at h
  · next range =>
    cases h
    rw [lineByte, Nat.sub_add_cancel range.1, BitVec.ofNat_toNat, BitVec.setWidth_eq]
  · cases h

theorem eq_outFuncNo_of_outFuncOf {b : Byte} {f : OutFunc} (h : outFuncOf b = some f) :
    b = BitVec.ofNat 8 (outFuncNo f) := by
  have number : outFuncNo f = b.toNat := by simpa using List.find?_some h
  rw [number, BitVec.ofNat_toNat, BitVec.setWidth_eq]

theorem eq_laneByte_of_outLaneOf {b : Byte} {l : Option Lane} (h : outLaneOf b = some l) : b = laneByte l := by
  unfold outLaneOf at h
  split at h
  · next zero => cases h; exact zero
  · obtain ⟨lane, found, rfl⟩ := Option.map_eq_some_iff.mp h
    have named := List.find?_some found
    exact (beq_iff_eq.mp named).symm

theorem eq_boolByte_of_boolOf {b : Byte} {x : Bool} (h : boolOf b = some x) : b = boolByte x := by
  unfold boolOf at h
  split at h
  · next zero => cases h; exact zero
  · split at h
    · next one => cases h; exact one
    · cases h

theorem toNat_lineByte (i : Fin 16) : (lineByte i).toNat = i.val + 1 := by revert i; decide

theorem toNat_boolByte (x : Bool) : (boolByte x).toNat = x.toNat := by cases x <;> rfl

theorem outFuncNo_le (f : OutFunc) : outFuncNo f ≤ 7 := by cases f <;> decide

theorem inFuncNo_le (f : InFunc) : inFuncNo f ≤ 6 := by cases f <;> decide

/-- The lane functions are those numbered 1 to 5 (R160, R182). -/
theorem usesLane_eq (f : OutFunc) : usesLane f = (decide (1 ≤ outFuncNo f) && decide (outFuncNo f ≤ 5)) := by
  cases f <;> rfl

theorem toNat_laneByte_le (l : Option Lane) : (laneByte l).toNat ≤ 4 := by
  rcases l with _ | l
  · decide
  · cases l <;> decide

theorem toNat_laneByte_eq_zero (l : Option Lane) : ((laneByte l).toNat == 0) = l.isNone := by
  rcases l with _ | l
  · rfl
  · cases l <;> rfl

/-! ### The level an output line drives -/

/-- The level driven by an output line of these settings (R160). -/
def State.driven (s : State) (o : OutLine) : Bool :=
  (if o.forceEnable then o.forceValue else if o.func ≠ .unbound then s.funcValue o else o.manual) != o.inverted

theorem State.outLevel_eq_driven (s : State) (i : Fin 16) : s.outLevel i = s.driven (s.panel.outputs.get i) := rfl

@[simp] theorem State.driven_setOutput (s : State) (i : Fin 16) (x o : OutLine) :
    (s.setOutput i x).driven o = s.driven o := rfl

@[simp] theorem State.outputs_setOutput_self (s : State) (i : Fin 16) (o : OutLine) :
    (s.setOutput i o).panel.outputs.get i = o := by
  simp [State.setOutput, Vector.get_eq_getElem]

/-- The bytes that report an output line of these settings (R161, R182). -/
def State.settingsBytes (s : State) (i : Fin 16) (o : OutLine) : List Byte :=
  [lineByte i, BitVec.ofNat 8 (outFuncNo o.func), laneByte o.lane, boolByte o.inverted, boolByte o.manual,
    boolByte o.forceEnable, boolByte o.forceValue, boolByte (s.driven o)]

theorem State.outBytes_setOutput (s : State) (i : Fin 16) (o : OutLine) :
    (s.setOutput i o).outBytes i = s.settingsBytes i o := by
  simp [State.outBytes, State.settingsBytes, State.outLevel_eq_driven]

theorem State.laneShows_eq (s : State) (l : Option Lane) (f : LaneBody → Bool) :
    s.laneShows l f = (l.bind s.body?).any f := by
  unfold State.laneShows
  cases l.bind s.body? <;> rfl

theorem Mode.delaying_eq (m : Mode) : m.delaying = (m != .pass) := by cases m <;> rfl

/-- The line holds a whole dump: always in whole-line mode (R20). -/
theorem LaneBody.dumpSize_le_h (b : LaneBody) :
    decide (b.dumpSize ≤ b.h) = (b.timing.dump.ms == 0 || decide (b.timing.dump.frames ≤ b.h)) := by
  by_cases whole : b.timing.dump.ms = 0 <;> simp [LaneBody.dumpSize, whole]

/-! ### PANEL_BIND_OUT and PANEL_DRIVE -/

/-- PANEL_BIND_OUT refuses a lane function without a lane (R161). -/
theorem bindOutMessage_missing_lane (s : State) (p : Port) (i : Fin 16) {func : OutFunc} {l : Option Lane}
    (inverted : Bool) (missing : (usesLane func && l.isNone) = true) :
    bindOutMessage s p [lineByte i, BitVec.ofNat 8 (outFuncNo func), laneByte l, boolByte inverted] =
      (s, .refuse .badArgument) := by
  simp only [bindOutMessage, lineOf_lineByte, outFuncOf_outFuncNo, outLaneOf_laneByte, boolOf_boolByte, missing, if_true]

/-- PANEL_BIND_OUT sets a line's function, lane and polarity, and reports the line (R161). -/
theorem bindOutMessage_sets (s : State) (p : Port) (i : Fin 16) {func : OutFunc} {l : Option Lane} (inverted : Bool)
    (present : ¬(usesLane func && l.isNone) = true) :
    bindOutMessage s p [lineByte i, BitVec.ofNat 8 (outFuncNo func), laneByte l, boolByte inverted] =
      let o := { s.panel.outputs.get i with func := func, lane := l, inverted := inverted }
      (s.setOutput i o, .ok (s.settingsBytes i o)) := by
  simp only [bindOutMessage, lineOf_lineByte, outFuncOf_outFuncNo, outLaneOf_laneByte, boolOf_boolByte, if_neg present,
    State.outBytes_setOutput]

/-- PANEL_DRIVE sets a line's manual value and force, and reports the line (R161). -/
theorem driveMessage_sets (s : State) (p : Port) (i : Fin 16) (manual enable force : Bool) :
    driveMessage s p [lineByte i, boolByte manual, boolByte enable, boolByte force] =
      let o := { s.panel.outputs.get i with manual := manual, forceEnable := enable, forceValue := force }
      (s.setOutput i o, .ok (s.settingsBytes i o)) := by
  simp only [driveMessage, lineOf_lineByte, boolOf_boolByte, State.outBytes_setOutput]

/-- Legal fields of PANEL_BIND_OUT are legal arguments, but for a lane function without a lane. -/
theorem argumentsOk_bindOut {r : Request} {i : Fin 16} {func : OutFunc} {l : Option Lane} {inverted : Bool}
    (code : r.code = 0x0C)
    (body : r.body = [lineByte i, BitVec.ofNat 8 (outFuncNo func), laneByte l, boolByte inverted]) :
    argumentsOk r = !(usesLane func && l.isNone) := by
  have line : i.val + 1 ≤ 16 := i.isLt
  have number : outFuncNo func % 256 = outFuncNo func := Nat.mod_eq_of_lt ((outFuncNo_le func).trans_lt (by decide))
  simp [argumentsOk, code, body, toNat_lineByte, number, toNat_boolByte, line, outFuncNo_le, toNat_laneByte_le,
    Bool.toNat_le, ← toNat_laneByte_eq_zero, usesLane_eq]

/-- Legal fields of PANEL_DRIVE are legal arguments. -/
theorem argumentsOk_drive {r : Request} {i : Fin 16} {manual enable force : Bool} (code : r.code = 0x0D)
    (body : r.body = [lineByte i, boolByte manual, boolByte enable, boolByte force]) : argumentsOk r = true := by
  have line : i.val + 1 ≤ 16 := i.isLt
  simp [argumentsOk, code, body, toNat_lineByte, toNat_boolByte, line, Bool.toNat_le]

/-- A byte outside its list is refused BAD_ARGUMENT, and so is a lane function without a lane (R161). -/
theorem bindOutMessage_bad {s : State} {p : Port} {r : Request} (code : r.code = 0x0C) (length : r.body.length = 4)
    (bad : argumentsOk r = false) : bindOutMessage s p r.body = (s, .refuse .badArgument) := by
  obtain ⟨i, f, l, x, body⟩ := List.length_eq_four.mp length
  rw [body]
  unfold bindOutMessage
  dsimp only
  split
  · next line func lane inverted hi hf hl hx =>
    cases eq_lineByte_of_lineOf hi
    cases eq_outFuncNo_of_outFuncOf hf
    cases eq_laneByte_of_outLaneOf hl
    cases eq_boolByte_of_boolOf hx
    rw [argumentsOk_bindOut code body, Bool.not_eq_false'] at bad
    exact if_pos bad
  · rfl

theorem driveMessage_bad {s : State} {p : Port} {r : Request} (code : r.code = 0x0D) (length : r.body.length = 4)
    (bad : argumentsOk r = false) : driveMessage s p r.body = (s, .refuse .badArgument) := by
  obtain ⟨i, m, e, v, body⟩ := List.length_eq_four.mp length
  rw [body]
  unfold driveMessage
  dsimp only
  split
  · next line manual enable force hi hm he hv =>
    cases eq_lineByte_of_lineOf hi
    cases eq_boolByte_of_boolOf hm
    cases eq_boolByte_of_boolOf he
    cases eq_boolByte_of_boolOf hv
    rw [argumentsOk_drive code body] at bad
    cases bad
  · rfl

/-! ### PANEL_STATUS -/

theorem boolByte_eq_ofNat (x : Bool) : boolByte x = BitVec.ofNat 8 x.toNat := by cases x <;> rfl

/-- A field put above the bits of a value is added to it. -/
theorem ofNat_or_shiftLeft {w k a : Nat} (b : Nat) (h : a < 2 ^ k) :
    BitVec.ofNat w a ||| (BitVec.ofNat w b <<< k) = BitVec.ofNat w (a + b * 2 ^ k) := by
  have shifted : BitVec.ofNat w b <<< k = BitVec.ofNat w (2 ^ k * b) :=
    BitVec.eq_of_toNat_eq (by simp [Nat.shiftLeft_eq, Nat.mul_comm])
  rw [shifted, ← BitVec.ofNat_or, Nat.or_comm, ← Nat.two_pow_add_eq_or_of_lt h, Nat.add_comm, Nat.mul_comm]

theorem bitsByte_four (a b c d : Bool) :
    bitsByte [a, b, c, d] = BitVec.ofNat 8 (a.toNat * 1 + b.toNat * 2 + c.toNat * 4 + d.toNat * 8) := by
  revert a b c d
  decide

/-- An input line's bytes in the inputs view, as sums of their fields (R182). -/
theorem Panel.inputBytes_eq (p : Panel) {x : InLine} (length : x.length ≤ 32) :
    p.inputBytes x =
      [BitVec.ofNat 8 (inFuncNo x.func + x.inverted.toNat * 8 + x.level.toNat * 16 +
          (decide (x.func ≠ .unbound ∧ { func := x.func, mask := x.mask } ∈ p.fired)).toNat * 32),
        BitVec.ofNat 8 (x.mask.toNat + x.count % 16 * 16), BitVec.ofNat 8 (x.length + x.count / 16 * 64)] := by
  have fired : (match x.group with | none => false | some g => p.isFired g) =
      decide (x.func ≠ .unbound ∧ { func := x.func, mask := x.mask } ∈ p.fired) := by
    by_cases unbound : x.func = .unbound <;> simp [InLine.group, unbound, Panel.isFired]
  have func := inFuncNo_le x.func
  have inverted := Bool.toNat_le x.inverted
  have level := Bool.toNat_le x.level
  have mask := x.mask.isLt
  simp only [Panel.inputBytes, laneMaskByte, boolByte_eq_ofNat]
  rw [ofNat_or_shiftLeft _ (by omega), ofNat_or_shiftLeft _ (by omega), ofNat_or_shiftLeft _ (by omega),
    ofNat_or_shiftLeft _ (by omega), ofNat_or_shiftLeft _ (by omega), ← fired]
  rfl

/-- An output line's bytes in the outputs view, as sums of their fields (R182). -/
theorem State.outputBytes_eq (s : State) (i : Fin 16) :
    s.outputBytes i =
      let o := s.panel.outputs.get i
      [BitVec.ofNat 8 (outFuncNo o.func + (laneByte o.lane).toNat * 8 + o.inverted.toNat * 64),
        BitVec.ofNat 8 (o.manual.toNat * 1 + o.forceEnable.toNat * 2 + o.forceValue.toNat * 4 + (s.driven o).toNat * 8)] := by
  have func := outFuncNo_le (s.panel.outputs.get i).func
  have lane := toNat_laneByte_le (s.panel.outputs.get i).lane
  have lifted := ofNat_or_shiftLeft (w := 8) (k := 3) (laneByte (s.panel.outputs.get i).lane).toNat
    (Nat.lt_succ_of_le func)
  rw [BitVec.ofNat_toNat, BitVec.setWidth_eq] at lifted
  simp only [State.outputBytes, bitsByte_four, State.outLevel_eq_driven, boolByte_eq_ofNat]
  rw [lifted, ofNat_or_shiftLeft _ (by omega)]
  rfl

theorem toList_eq_map_get {α : Type} {n : Nat} (v : Vector α n) : v.toList = (List.finRange n).map v.get := by
  rw [← List.ofFn_eq_map]
  refine List.ext_getElem (by simp) fun k _ _ => ?_
  simp [Vector.get_eq_getElem]

theorem panelStatusMessage_inputs (s : State) (p : Port) :
    panelStatusMessage s p [0] =
      (s, .ok (0 :: boolByte s.panel.lockout ::
        (List.finRange 16).flatMap fun i => s.panel.inputBytes (s.panel.inputs.get i))) := by
  rw [← List.flatMap_map, ← toList_eq_map_get]
  rfl

theorem panelStatusMessage_outputs (s : State) (p : Port) :
    panelStatusMessage s p [1] =
      (s, .ok (1 :: boolByte s.panel.lockout :: (List.finRange 16).flatMap s.outputBytes)) := rfl

theorem panelStatusMessage_bad (s : State) (p : Port) {v : Byte} (h : 2 ≤ v.toNat) :
    panelStatusMessage s p [v] = (s, .refuse .badArgument) := by
  dsimp only [panelStatusMessage]
  rw [if_neg (by rintro rfl; simp at h), if_neg (by rintro rfl; simp at h)]

end Sys2Proof.Machine

section

open Sys2Proof Sys2Proof.Machine

/-- Settles O60: every level is that of the line's settings, which a request's own handling cannot move, and each byte of
the replies is the sum of its fields. -/
theorem outputLinesShowTheirFunctions : Obligations.OutputLinesShowTheirFunctions := by
  intro s p r lane value level bit number settings put
  have value_eq (o : OutLine) : value o = if o.func ≠ .unbound then s.funcValue o else o.manual := by
    obtain ⟨func, l, _, _, _, _⟩ := o
    cases func <;>
      simp [value, lane, State.funcValue, State.laneShows_eq, Mode.delaying_eq, LaneBody.dumpSize_le_h, CoverSet.isEmpty,
        beq_eq_decide]
  have level_eq : level = s.driven := by
    funext o
    simp only [level, value_eq, State.driven]
    exact Bool.xor_comm _ _
  have settings_eq (i : Fin 16) (o : OutLine) : settings i o = s.settingsBytes i o := by
    simp only [settings, level_eq]
    rfl
  have bit_eq (n : Nat) (x : Bool) : bit n x = x.toNat * n := by cases x <;> simp [bit]
  refine ⟨fun i => ?levels, fun body length => ⟨fun asks bad => ?badBind, fun asks bad => ?badDrive, fun observer =>
    ⟨fun asks => ?observerBind, fun asks => ?observerDrive⟩⟩, fun v hv asks => ?badView, fun i func l inverted asks => ?bind,
    fun i manual enable force asks => ?drive, fun kept asks => ?inputs, fun asks => ?outputs⟩
  case levels => rw [level_eq, State.outLevel_eq_driven]
  case badBind =>
    have ⟨_, _, code, hbody⟩ := asks
    subst hbody
    exact congrArg Host.Outcome.next
      (State.execute_asks asks (hasCode_of_code code) (by simp [lengthIs, length]) (bindOutMessage_bad code length bad))
  case badDrive =>
    have ⟨_, _, code, hbody⟩ := asks
    subst hbody
    exact congrArg Host.Outcome.next
      (State.execute_asks asks (hasCode_of_code code) (by simp [lengthIs, length]) (driveMessage_bad code length bad))
  case observerBind =>
    have ⟨_, code, _⟩ := asks
    exact congrArg Host.Outcome.next
      (State.execute_observer asks observer (hasCode_of_code code) (by simp [lengthIs, length]))
  case observerDrive =>
    have ⟨_, code, _⟩ := asks
    exact congrArg Host.Outcome.next
      (State.execute_observer asks observer (hasCode_of_code code) (by simp [lengthIs, length]))
  case badView =>
    have ⟨_, code, _⟩ := asks
    exact congrArg Host.Outcome.next
      (State.execute_asksEither asks (hasCode_of_code code) rfl (panelStatusMessage_bad _ p hv))
  case bind =>
    have ⟨_, _, code, _⟩ := asks
    have needsLane : (l = none ∧ func ∈ [OutFunc.dumpReady, .inDelay, .building, .coverOn, .inputLost]) ↔
        (usesLane func && l.isNone) = true := by
      cases func <;> simp [usesLane]
    intro o
    split
    · next missing =>
      exact congrArg Host.Outcome.next (State.execute_asks asks (hasCode_of_code code) rfl
        (bindOutMessage_missing_lane _ p i inverted (needsLane.mp missing)))
    · next present =>
      rw [settings_eq]
      exact congrArg Host.Outcome.next (State.execute_asks asks (hasCode_of_code code) rfl
        (bindOutMessage_sets _ p i inverted (present ∘ needsLane.mpr)))
  case drive =>
    have ⟨_, _, code, _⟩ := asks
    intro o
    rw [settings_eq]
    exact congrArg Host.Outcome.next (State.execute_asks asks (hasCode_of_code code) rfl
      (driveMessage_sets _ p i manual enable force))
  case inputs =>
    have ⟨_, code, _⟩ := asks
    have ⟨lines, _⟩ := kept
    refine congrArg Host.Outcome.next (State.execute_asksEither asks (hasCode_of_code code) rfl
      ((panelStatusMessage_inputs (s.takeRequest p) p).trans ?_))
    have bytes (i : Fin 16) := by
      obtain ⟨-, length, -⟩ := lines i
      exact Panel.inputBytes_eq s.panel length
    simp only [State.takeRequest_panel, bytes, bit_eq]
    rfl
  case outputs =>
    have ⟨_, code, _⟩ := asks
    refine congrArg Host.Outcome.next (State.execute_asksEither asks (hasCode_of_code code) rfl
      ((panelStatusMessage_outputs (s.takeRequest p) p).trans ?_))
    rw [funext (State.outputBytes_eq (s.takeRequest p))]
    simp only [level_eq, bit_eq]
    rfl

end

/-! PROOFS. What one operation may do to a lane (O16, O23, O24, O27, O28). A change of a lane is a `LaneBody.Step` when it
keeps everything that a lane keeps by itself; an operation is a run of such changes, of countings, postings, page writes and
page readings. Every invariant then looks at those few updates only, and every operation is walked through once. -/

namespace Sys2Proof.Machine

/-! ### The bounds of a lane, part by part -/

/-- The bounds of the timing settings on a lane that holds at most `m` records (R18, R20). -/
def Timing.Within (t : Timing) (m : Nat) : Prop :=
  (∀ x, t.target = some x → x.ms ≤ 60000 ∧ 2 ≤ x.frames ∧ x.frames ≤ m - 2) ∧
  (t.dump.ms = 0 ∨ (1 ≤ t.dump.frames ∧ t.dump.frames ≤ m)) ∧ t.lead.frames ≤ m

/-- The bounds of Frame Intake's counts (R53, R62, R64). -/
def Intake.Within (i : Intake) : Prop :=
  i.ticksSince ≤ 3 ∧ i.owed ≤ 3 ∧ ∀ f, i.arrival = some f → f.accepted ≤ 32

/-- The bounds of the packet lists (R80). -/
def DelayLine.Within (d : DelayLine) : Prop := d.carried.length ≤ 32 ∧ d.departing.length ≤ 32

/-- The bounds of Playout's counts at a rate (R100, R103, R105, R107). -/
def Playout.Within (p : Playout) (r : Fin 8) : Prop :=
  p.phase < cadencePeriod r ∧ p.tonePhase < 48 ∧ p.quietRun ≤ 255 ∧ p.fill.amplitude ≤ 8388607

/-- The bounds of the governor's account (R115, R121). -/
def GovState.Within (g : GovState) : Prop := g.since ≤ 65535 ∧ g.inserts ≤ 65535 ∧ g.skips ≤ 65535

/-- The bounds of the governor's settings (R122). -/
def GovSettings.Within (g : GovSettings) : Prop :=
  g.threshold ≤ 8388607 ∧ (1 ≤ g.q ∧ g.q ≤ 60) ∧ (1 ≤ g.s ∧ g.s ≤ 250) ∧
  (g.f = 0 ∨ (g.s ≤ g.f ∧ g.f ≤ 6000)) ∧ (1 ≤ g.e ∧ g.e ≤ 250)

theorem LaneBody.bounded_iff (b : LaneBody) :
    b.Bounded ↔ b.timing.Within b.maxH ∧ b.intake.Within ∧ b.dl.Within ∧ b.play.Within b.fmt.rate ∧ b.gov.Within ∧
      b.govSet.Within := by
  unfold LaneBody.Bounded Timing.Within Intake.Within DelayLine.Within Playout.Within GovState.Within GovSettings.Within
  constructor
  · rintro ⟨target, dump, lead, ticks, owed, accepted, carried, departing, phase, tone, quiet, since, inserts, skips,
      threshold, q, s, f, e, amplitude⟩
    exact ⟨⟨target, dump, lead⟩, ⟨ticks, owed, accepted⟩, ⟨carried, departing⟩, ⟨phase, tone, quiet, amplitude⟩,
      ⟨since, inserts, skips⟩, threshold, q, s, f, e⟩
  · rintro ⟨⟨target, dump, lead⟩, ⟨ticks, owed, accepted⟩, ⟨carried, departing⟩, ⟨phase, tone, quiet, amplitude⟩,
      ⟨since, inserts, skips⟩, threshold, q, s, f, e⟩
    exact ⟨target, dump, lead, ticks, owed, accepted, carried, departing, phase, tone, quiet, since, inserts, skips,
      threshold, q, s, f, e, amplitude⟩

/-! ### The frames of a lane -/

/-- How many frames a lane holds, its in-arrival frame among them (R68). -/
def LaneBody.frameCount (b : LaneBody) : Nat := b.h + (if b.intake.arrival.isSome then 1 else 0)

/-- No frame of a lane takes more than n pages (R32). -/
def LaneBody.FramesFit (b : LaneBody) (n : Nat) : Prop :=
  (∀ f, b.intake.arrival = some f → f.pages.length ≤ n) ∧
  (∀ r ∈ b.dl.records, r.pages.length ≤ n) ∧
  (∀ r, b.play.hold = some r → r.pages.length ≤ n)

/-- What the link relation looks at of a lane (1.4): a follower's leader and pending count, and the discard-through value of
a lane that is no follower. -/
structure LinkSide where
  mode : Mode
  link : Option (Lane × Int)
  rate : Fin 8
  sources : CoverSet
  stray : Option Seq
  hasTarget : Bool

/-- What the link relation looks at of a lane. -/
def LaneBody.linkSide (b : LaneBody) : LinkSide :=
  { mode := b.mode, link := b.link.map fun k => (k.leader, k.pending), rate := b.fmt.rate, sources := b.dl.sources
    stray := if b.link.isSome then none else b.intake.discardThrough, hasTarget := b.timing.target.isSome }

/-! ### One change of a lane -/

/-- A change of a lane that gives up the pages `freed` and keeps all that a lane keeps by itself: the bounds of its parts,
its carry store, its pages, its room, the order of its line and the place of its mark. It assigns no seq. -/
structure LaneBody.Keeps (b c : LaneBody) (freed : List PageNo) : Prop where
  fmt : c.fmt = b.fmt := by rfl
  maxH : c.maxH = b.maxH := by rfl
  timing : 4 ≤ b.maxH → b.timing.Within b.maxH → c.timing.Within b.maxH := by exact fun _ h => h
  intake : b.intake.Within → c.intake.Within := by exact id
  lists : b.dl.Within → c.dl.Within := by exact id
  play : b.play.Within b.fmt.rate → c.play.Within b.fmt.rate := by exact id
  gov : b.gov.Within → c.gov.Within := by exact id
  govSet : b.govSet.Within → c.govSet.Within := by exact id
  carry : b.CarryKept → c.CarryKept := by exact id
  pages : b.pages.Perm (c.pages ++ freed) := by exact .of_eq (List.append_nil _).symm
  room : c.frameCount ≤ b.frameCount := by exact le_refl _
  fit : ∀ n, b.FramesFit n → c.FramesFit n := by exact fun _ h => h
  nextSeq : c.intake.nextSeq = b.intake.nextSeq := by rfl
  waits : b.intake.arrival = none → c.intake.arrival = none := by exact id
  seqs : c.seqs.Sublist b.seqs := by exact List.Sublist.refl _
  mark : b.MarkPlaced → c.MarkPlaced := by exact id

/-- Such a change that leaves no more fills owed. -/
structure LaneBody.Step (b c : LaneBody) (freed : List PageNo) : Prop extends b.Keeps c freed where
  owed : c.intake.owed ≤ b.intake.owed := by exact le_refl _

/-- A change that keeps all that a lane keeps by itself and leaves alone what the link relation looks at. -/
structure LaneBody.LineKeeps (b c : LaneBody) (freed : List PageNo) : Prop extends b.Keeps c freed where
  linkSide : c.linkSide = b.linkSide := by rfl

/-- Such a change that leaves no more fills owed. -/
structure LaneBody.LineStep (b c : LaneBody) (freed : List PageNo) : Prop extends b.Step c freed, b.LineKeeps c freed

/-- The order of a line is kept where no seq is new (R71). -/
theorem LaneBody.Keeps.inOrder {b c : LaneBody} {freed : List PageNo} (h : b.Keeps c freed) (order : b.InOrder) :
    c.InOrder := by
  obtain ⟨rising, beyond⟩ := order
  simp only [LaneBody.InOrder, LaneBody.behind, h.nextSeq]
  exact ⟨rising.sublist h.seqs, fun q hq => beyond q (h.seqs.subset hq)⟩

theorem LaneBody.Keeps.bounded {b c : LaneBody} {freed : List PageNo} (h : b.Keeps c freed) (large : 4 ≤ b.maxH)
    (bounded : b.Bounded) : c.Bounded := by
  rw [LaneBody.bounded_iff] at bounded ⊢
  obtain ⟨timing, intake, lists, play, gov, govSet⟩ := bounded
  rw [h.fmt, h.maxH]
  exact ⟨h.timing large timing, h.intake intake, h.lists lists, h.play play, h.gov gov, h.govSet govSet⟩

theorem LaneBody.withinBudget_iff (b : LaneBody) (n : Nat) :
    b.WithinBudget n ↔ 6 * pagesPerFrame b.fmt.vclass ≤ n ∧ b.maxH = min 4096 (n / pagesPerFrame b.fmt.vclass - 2) ∧
      b.frameCount ≤ b.maxH ∧ b.FramesFit (pagesPerFrame b.fmt.vclass) := Iff.rfl

theorem LaneBody.Keeps.withinBudget {b c : LaneBody} {freed : List PageNo} (h : b.Keeps c freed) {n : Nat}
    (within : b.WithinBudget n) : c.WithinBudget n := by
  rw [LaneBody.withinBudget_iff] at within ⊢
  obtain ⟨least, most, room, fit⟩ := within
  rw [h.fmt, h.maxH]
  exact ⟨least, most, h.room.trans room, h.fit _ fit⟩

/-! ### One update of the state -/

/-- One update of the state by an operation on lanes: a posting, a count, a page's write, one word read in error, or a change
of one lane's body within `K` that gives up the pages `freed`. -/
inductive State.Move (K : LaneBody → LaneBody → List PageNo → Prop) : State → State → Prop
  | post (s : State) (x : Option Lane) (d : Detail) : Move K s (s.post x d)
  | count (s : State) (l : Lane) (k : Counter) (n : Nat) : Move K s (s.count l k n)
  | write (s : State) (p : PageNo) : Move K s { s with store := s.store.writePage p }
  | read (s : State) (k : Fin 8) (e : WordErr) : Move K s (s.readErr k e)
  | body (s : State) (l : Lane) (b c : LaneBody) (freed : List PageNo) :
      s.body? l = some b → K b c freed → Move K s ((s.setBody l (some c)).freePages l freed)

/-- Updates one after another. -/
def State.Moves (K : LaneBody → LaneBody → List PageNo → Prop) : State → State → Prop := Relation.ReflTransGen (State.Move K)

section
variable {K K' : LaneBody → LaneBody → List PageNo → Prop} {s t u : State} {l : Lane} {b c : LaneBody}

theorem State.Moves.refl (s : State) : s.Moves K s := Relation.ReflTransGen.refl

theorem State.Moves.trans (h : s.Moves K t) (h' : t.Moves K u) : s.Moves K u := Relation.ReflTransGen.trans h h'

theorem State.Moves.mono (h : s.Moves K t) (hK : ∀ b c ps, K b c ps → K' b c ps) : s.Moves K' t := by
  refine Relation.ReflTransGen.mono (fun u v m => ?_) _ _ h
  cases m with
  | post x d => exact .post u x d
  | count l k n => exact .count u l k n
  | write p => exact .write u p
  | read k e => exact .read u k e
  | body l b c ps hb hk => exact .body u l b c ps hb (hK b c ps hk)

/-- A property that every single update keeps is kept by updates one after another. -/
theorem State.Moves.keeps {P : State → Prop} (h : s.Moves K t) (move : ∀ u v, State.Move K u v → P u → P v) (hs : P s) :
    P t := by
  induction h with
  | refl => exact hs
  | tail _ m ih => exact move _ _ m ih

theorem State.Moves.post (h : s.Moves K t) (x : Option Lane) (d : Detail) : s.Moves K (t.post x d) :=
  Relation.ReflTransGen.tail h (.post t x d)

theorem State.Moves.count (h : s.Moves K t) (l : Lane) (k : Counter) (n : Nat) : s.Moves K (t.count l k n) :=
  Relation.ReflTransGen.tail h (.count t l k n)

theorem State.Moves.write (h : s.Moves K t) (p : PageNo) : s.Moves K { t with store := t.store.writePage p } :=
  Relation.ReflTransGen.tail h (.write t p)

theorem State.Moves.writes (h : s.Moves K t) (ps : List PageNo) :
    s.Moves K { t with store := t.store.writePages ps } := by
  unfold Store.writePages
  induction ps generalizing t with
  | nil => exact h
  | cons p ps ih => exact ih (h.write p)

theorem State.Moves.readPages (h : s.Moves K t) (ps : List PageNo) : s.Moves K (t.readPages ps) := by
  refine foldl_invariant State.readPage (s.Moves K) (fun u p hu => ?_) ps t h
  exact foldl_invariant _ (s.Moves K) (fun v e hv => Relation.ReflTransGen.tail hv (.read v _ _)) _ u hu

theorem State.Moves.freeing (h : s.Moves K t) {freed : List PageNo} (hb : t.body? l = some b) (hk : K b c freed) :
    s.Moves K ((t.setBody l (some c)).freePages l freed) := Relation.ReflTransGen.tail h (.body t l b c freed hb hk)

@[simp] theorem State.freePages_nil (s : State) (l : Lane) : s.freePages l [] = s := by
  simp [State.freePages, Store.giveBack]

theorem State.Moves.setBody (h : s.Moves K t) (hb : t.body? l = some b) (hk : K b c []) :
    s.Moves K (t.setBody l (some c)) := by
  simpa using h.freeing hb hk

theorem State.Moves.modBody (h : s.Moves K t) (l : Lane) {f : LaneBody → LaneBody} (hk : ∀ b, t.body? l = some b → K b (f b) []) :
    s.Moves K (t.modBody l f) := by
  cases hb : t.body? l with
  | none => rwa [State.modBody_of_none t l f hb]
  | some b =>
    rw [State.modBody_of_some t l f hb]
    exact h.setBody hb (hk b hb)

theorem State.Moves.foldl {α : Type} {op : State → α → State} (h : s.Moves K t) (xs : List α)
    (hop : ∀ (u : State) x, u.Moves K (op u x)) : s.Moves K (xs.foldl op t) :=
  foldl_invariant op (s.Moves K) (fun u x hu => hu.trans (hop u x)) xs t h

theorem State.Moves.dropPackets (h : s.Moves K t) (l : Lane) (departure : Bool) (dropped : List Packet) :
    s.Moves K (t.dropPackets l departure dropped) := by
  unfold State.dropPackets
  dsimp only
  have counted : s.Moves K (if (dropped.filter (·.source == .live)).isEmpty then t
      else t.count l .ancDropped (dropped.filter (·.source == .live)).length) := by
    split
    · exact h
    · exact h.count l _ _
  split
  · exact counted
  · exact (counted.count l _ _).post _ _

end

end Sys2Proof.Machine

namespace Sys2Proof.Machine

/-! ### Changes of a lane one after another -/

section
variable {b c d : LaneBody} {freed : List PageNo}

theorem LaneBody.Keeps.trans (h : b.Keeps c []) (h' : c.Keeps d freed) : b.Keeps d freed where
  fmt := h'.fmt.trans h.fmt
  maxH := h'.maxH.trans h.maxH
  timing large t := by
    have middle := h.timing large t
    rw [← h.maxH] at large middle ⊢
    exact h'.timing large middle
  intake := h'.intake ∘ h.intake
  lists := h'.lists ∘ h.lists
  play p := by
    have middle := h.play p
    rw [← h.fmt] at middle ⊢
    exact h'.play middle
  gov := h'.gov ∘ h.gov
  govSet := h'.govSet ∘ h.govSet
  carry := h'.carry ∘ h.carry
  pages := (h.pages.trans (.of_eq (List.append_nil _))).trans h'.pages
  room := h'.room.trans h.room
  fit n := h'.fit n ∘ h.fit n
  nextSeq := h'.nextSeq.trans h.nextSeq
  waits := h'.waits ∘ h.waits
  seqs := h'.seqs.trans h.seqs
  mark := h'.mark ∘ h.mark

theorem LaneBody.Step.trans (h : b.Step c []) (h' : c.Step d freed) : b.Step d freed where
  toKeeps := h.toKeeps.trans h'.toKeeps
  owed := h'.owed.trans h.owed

theorem LaneBody.LineKeeps.trans (h : b.LineKeeps c []) (h' : c.LineKeeps d freed) : b.LineKeeps d freed where
  toKeeps := h.toKeeps.trans h'.toKeeps
  linkSide := h'.linkSide.trans h.linkSide

theorem LaneBody.LineStep.trans (h : b.LineStep c []) (h' : c.LineStep d freed) : b.LineStep d freed where
  toStep := h.toStep.trans h'.toStep
  linkSide := h'.linkSide.trans h.linkSide

end

/-! ### The pages of a lane -/

/-- The pages of an in-arrival frame, or none. -/
def arrivalPages (f : Option InArrival) : List PageNo := (f.map (·.pages)).getD []

/-- The pages of an output hold, or none. -/
def holdPages (r : Option Record) : List PageNo := (r.map (·.pages)).getD []

theorem LaneBody.pages_eq (b : LaneBody) :
    b.pages = arrivalPages b.intake.arrival ++ recordsPages b.dl.records ++ holdPages b.play.hold := rfl

theorem recordsPages_append (xs ys : List Record) : recordsPages (xs ++ ys) = recordsPages xs ++ recordsPages ys :=
  List.flatMap_append

theorem recordsPages_perm {xs ys : List Record} (h : xs.Perm ys) : (recordsPages xs).Perm (recordsPages ys) :=
  h.flatMap_right _

/-! ### The place of the mark -/

/-- Where a mark stands among the seqs of held records, that of the in-arrival frame, and the next-seq (R73). -/
def Mark.Placed (m : Mark) (held : List Seq) (arriving : Option Seq) (next : Seq) : Prop :=
  match m.standing with
  | .pending => arriving = none ∧ m.seq = next
  | .arriving => arriving = some m.seq
  | .held => m.seq ∈ held
  | .gone _ => True

theorem LaneBody.markPlaced_iff (b : LaneBody) : b.MarkPlaced ↔ ∀ m, b.dl.mark = some m →
    m.Placed (b.dl.records.map (·.seq)) (b.intake.arrival.map (·.seq)) b.intake.nextSeq := by
  unfold LaneBody.MarkPlaced Mark.Placed
  refine forall_congr' fun m => forall_congr' fun _ => ?_
  cases m.standing <;> simp

/-- A mark stays in place while records leave the line whose seqs it is told of (R75). -/
theorem LaneBody.markPlaced_of_leaves {b c : LaneBody} {left : List Seq} {why : GoneReason}
    (mark : c.dl.mark = markLeaves b.dl.mark left why)
    (arrival : c.intake.arrival.map (·.seq) = b.intake.arrival.map (·.seq))
    (next : c.intake.nextSeq = b.intake.nextSeq)
    (stay : ∀ q ∈ b.dl.records.map (·.seq), q ∉ left → q ∈ c.dl.records.map (·.seq))
    (h : b.MarkPlaced) : c.MarkPlaced := by
  rw [LaneBody.markPlaced_iff] at h ⊢
  rw [mark, arrival, next]
  intro m hm
  obtain ⟨k, hk, rfl⟩ := Option.map_eq_some_iff.mp hm
  have placed := h k hk
  unfold Mark.Placed at placed ⊢
  split_ifs with gone
  · trivial
  · cases standing : k.standing with
    | pending | arriving => simpa only [standing] using placed
    | gone => trivial
    | held =>
      simp only [standing] at placed ⊢
      exact stay _ placed fun left => gone ⟨standing, left⟩

/-! ### Changes of one part of a lane -/

theorem GovState.within_entersPass {g : GovState} (_ : g.Within) : g.entersPass.Within := by
  simp [GovState.Within, GovState.entersPass]

/-- A lane with its governor's account replaced. -/
def LaneBody.withGov (b : LaneBody) (g : GovState) : LaneBody := { b with gov := g }

/-- A lane with its link replaced. -/
def LaneBody.withLink (b : LaneBody) (k : Option FollowerLink) : LaneBody := { b with link := k }

/-- A lane with its discard-through value replaced. -/
def LaneBody.withDiscardThrough (b : LaneBody) (v : Option Seq) : LaneBody := { b with intake.discardThrough := v }

/-- A lane with its cover source set replaced. -/
def LaneBody.withSources (b : LaneBody) (c : CoverSet) : LaneBody := { b with dl.sources := c }

theorem LaneBody.lineStep_gov (b : LaneBody) {g : GovState} (within : b.gov.Within → g.Within) :
    b.LineStep (b.withGov g) [] where
  gov := within

theorem LaneBody.step_mode (b : LaneBody) (m : Mode) : b.Step { b with mode := m } [] where

theorem LaneBody.lineStep_discardThrough (b : LaneBody) (v : Option Seq) (h : b.link.isSome = true) :
    b.LineStep (b.withDiscardThrough v) [] where
  linkSide := by simp [LaneBody.linkSide, LaneBody.withDiscardThrough, h]

theorem LaneBody.step_link (b : LaneBody) (k : Option FollowerLink) : b.Step (b.withLink k) [] where

theorem LaneBody.step_discardThrough (b : LaneBody) (v : Option Seq) :
    b.Step (b.withDiscardThrough v) [] where

theorem LaneBody.step_sources (b : LaneBody) (c : CoverSet) : b.Step (b.withSources c) [] where

theorem LaneBody.lineStep_govSet (b : LaneBody) {g : GovSettings} (within : g.Within) :
    b.LineStep { b with govSet := g } [] where
  govSet _ := within

theorem LaneBody.step_timing (b : LaneBody) {t : Timing} (within : 4 ≤ b.maxH → b.timing.Within b.maxH → t.Within b.maxH) :
    b.Step { b with timing := t } [] where
  timing := within

theorem LaneBody.lineStep_splice (b : LaneBody) (x : Splice) : b.LineStep { b with splice := x } [] where

theorem LaneBody.lineStep_routes (b : LaneBody) (es : List RouteEntry) (dflt : PacketClass) :
    b.LineStep { b with intake.routes := es, intake.defaultClass := dflt } [] where

theorem LaneBody.lineStep_watch (b : LaneBody) (es : List WatchEntry) :
    b.LineStep { b with intake.watch := es } [] where

theorem LaneBody.lineStep_fill (b : LaneBody) {f : CoverFill} (h : f.amplitude ≤ 8388607) :
    b.LineStep { b with play.fill := f } [] where
  play := fun ⟨phase, tone, quiet, _⟩ => ⟨phase, tone, quiet, h⟩

theorem LaneBody.lineStep_depth (b : LaneBody) (n : Nat) : b.LineStep { b with play.depth := n } [] where

theorem LaneBody.lineStep_noMark (b : LaneBody) : b.LineStep { b with dl.mark := none } [] where
  mark _ _ h := by cases h

/-- A new mark stands where its standing says. -/
theorem LaneBody.lineStep_mark (b : LaneBody) {m : Mark}
    (placed : m.Placed (b.dl.records.map (·.seq)) (b.intake.arrival.map (·.seq)) b.intake.nextSeq) :
    b.LineStep { b with dl.mark := some m } [] where
  mark _ := by
    rw [LaneBody.markPlaced_iff]
    rintro _ ⟨⟩
    exact placed

theorem LaneBody.lineStep_newMark (b : LaneBody) : b.LineStep { b with dl.mark := some b.newMark } [] := by
  refine b.lineStep_mark ?_
  unfold LaneBody.newMark Mark.Placed
  cases b.intake.arrival <;> simp

/-! ### Flags of the frames held -/

/-- What flagging a record leaves alone: all but its cover flag (R77). -/
def Record.core (r : Record) : Record := { r with covered := false }

/-- What a tick, a flag and a page's write leave alone of an in-arrival frame. -/
def InArrival.core (f : InArrival) : InArrival := { f with covered := false, discard := false, ticksSeen := 0, written := 0 }

theorem arrival_of_core {f g : Option InArrival} (h : f.map (·.core) = g.map (·.core)) :
    f.map (·.seq) = g.map (·.seq) ∧ f.map (·.pages) = g.map (·.pages) ∧ f.isSome = g.isSome := by
  have part {α : Type} (obs : InArrival → α) (same : ∀ x : InArrival, obs x.core = obs x) : f.map obs = g.map obs := by
    simpa only [Option.map_map, Function.comp_def, same] using congrArg (Option.map obs) h
  refine ⟨part _ fun _ => rfl, part _ fun _ => rfl, ?_⟩
  simpa using congrArg Option.isSome h

theorem Record.of_core {r r' : Record} (h : r'.core = r.core) :
    r'.pages = r.pages ∧ r'.carryCopy = r.carryCopy ∧ r'.carriedPrefix = r.carriedPrefix ∧ r'.own = r.own := by
  have part {α : Type} (obs : Record → α) (same : ∀ x : Record, obs x.core = obs x) : obs r' = obs r := by
    rw [← same, h, same]
  exact ⟨part _ fun _ => rfl, part _ fun _ => rfl, part _ fun _ => rfl, part _ fun _ => rfl⟩

theorem InArrival.of_core {f f' : InArrival} (h : f'.core = f.core) :
    f'.pages = f.pages ∧ f'.carryCopy = f.carryCopy ∧ f'.own = f.own ∧ f'.accepted = f.accepted := by
  have part {α : Type} (obs : InArrival → α) (same : ∀ x : InArrival, obs x.core = obs x) : obs f' = obs f := by
    rw [← same, h, same]
  exact ⟨part _ fun _ => rfl, part _ fun _ => rfl, part _ fun _ => rfl, part _ fun _ => rfl⟩

theorem mem_of_core {rs rs' : List Record} (h : rs'.map (·.core) = rs.map (·.core)) {r : Record} (hr : r ∈ rs') :
    ∃ r' ∈ rs, r'.core = r.core := by
  have := List.mem_map_of_mem (f := Record.core) hr
  rw [h] at this
  exact List.mem_map.mp this

theorem some_of_core {f f' : Option InArrival} (h : f'.map (·.core) = f.map (·.core)) {g : InArrival} (hg : f' = some g) :
    ∃ g', f = some g' ∧ g'.core = g.core := by
  subst hg
  exact Option.map_eq_some_iff.mp h.symm

/-- A lane with its records and its in-arrival frame replaced. -/
def LaneBody.withFrames (b : LaneBody) (rs : List Record) (f : Option InArrival) : LaneBody :=
  { b with dl.records := rs, intake.arrival := f }

/-- A change of nothing but flags and counts of the frames held. -/
theorem LaneBody.lineStep_frames (b : LaneBody) {rs : List Record} {f : Option InArrival}
    (records : rs.map (·.core) = b.dl.records.map (·.core))
    (arrival : f.map (·.core) = b.intake.arrival.map (·.core)) :
    b.LineStep (b.withFrames rs f) [] := by
  obtain ⟨seq, pages, isSome⟩ := arrival_of_core arrival
  have part {α : Type} (obs : Record → α) (same : ∀ x : Record, obs x.core = obs x) : rs.map obs = b.dl.records.map obs := by
    simpa only [List.map_map, Function.comp_def, same] using congrArg (List.map obs) records
  have recordSeqs := part (·.seq) fun _ => rfl
  have recordPages : recordsPages rs = recordsPages b.dl.records := by
    simpa only [recordsPages, List.flatMap_def] using congrArg List.flatten (part (·.pages) fun _ => rfl)
  exact {
    intake := fun ⟨ticks, owed, most⟩ => ⟨ticks, owed, fun g hg => by
      obtain ⟨a, ha, e⟩ := some_of_core arrival hg
      obtain ⟨-, -, -, accepted⟩ := InArrival.of_core e
      exact accepted ▸ most a ha⟩
    carry := fun ⟨kept, arriving⟩ => by
      refine ⟨fun r hr => ?_, fun g hg => ?_⟩
      · obtain ⟨r', hr', e⟩ := mem_of_core records hr
        obtain ⟨-, copy, carried, own⟩ := Record.of_core e
        exact copy ▸ carried ▸ own ▸ kept r' hr'
      · obtain ⟨a, ha, e⟩ := some_of_core arrival hg
        obtain ⟨-, copy, own, -⟩ := InArrival.of_core e
        exact copy ▸ own ▸ arriving a ha
    pages := by
      simp only [LaneBody.pages_eq, LaneBody.withFrames, arrivalPages, recordPages, pages, List.append_nil]
      exact .refl _
    room := by
      have length := congrArg List.length records
      simp only [List.length_map] at length
      simp [LaneBody.frameCount, LaneBody.h, LaneBody.withFrames, length, isSome]
    fit := fun n ⟨arriving, kept, hold⟩ => by
      refine ⟨fun g hg => ?_, fun r hr => ?_, hold⟩
      · obtain ⟨a, ha, e⟩ := some_of_core arrival hg
        obtain ⟨pages, -⟩ := InArrival.of_core e
        exact pages ▸ arriving a ha
      · obtain ⟨r', hr', e⟩ := mem_of_core records hr
        obtain ⟨pages, -⟩ := Record.of_core e
        exact pages ▸ kept r' hr'
    waits := fun waiting => by
      show f = none
      rwa [waiting, Option.isSome_none, Option.isSome_eq_false_iff, Option.isNone_iff_eq_none] at isSome
    seqs := by
      simp only [LaneBody.seqs, LaneBody.withFrames, recordSeqs, seq]
      exact List.Sublist.refl _
    mark := by
      simp only [LaneBody.markPlaced_iff, LaneBody.withFrames, recordSeqs, seq]
      exact id }

end Sys2Proof.Machine

namespace Sys2Proof.Machine

/-! ### Records that leave the line -/

/-- A line of records falls apart into those kept, in their order, and those removed. -/
def Splits (records kept removed : List Record) : Prop :=
  kept.Sublist records ∧ (kept ++ removed).Perm records

theorem Splits.mem {rs kept removed : List Record} (h : Splits rs kept removed) {r : Record} :
    r ∈ rs ↔ r ∈ kept ∨ r ∈ removed := by
  obtain ⟨-, perm⟩ := h
  rw [← perm.mem_iff, List.mem_append]

theorem splits_append (kept removed : List Record) : Splits (kept ++ removed) kept removed :=
  ⟨List.sublist_append_left _ _, .refl _⟩

theorem splits_append_comm (removed kept : List Record) : Splits (removed ++ kept) kept removed :=
  ⟨List.sublist_append_right _ _, List.perm_append_comm⟩

theorem splits_take_drop (n : Nat) (rs : List Record) : Splits rs (rs.take n) (rs.drop n) := by
  simpa only [List.take_append_drop] using splits_append (rs.take n) (rs.drop n)

theorem splits_drop_take (n : Nat) (rs : List Record) : Splits rs (rs.drop n) (rs.take n) := by
  simpa only [List.take_append_drop] using splits_append_comm (rs.take n) (rs.drop n)

theorem splits_all (rs : List Record) : Splits rs [] rs := splits_append [] rs

theorem splits_filter (p : Record → Bool) (rs : List Record) :
    Splits rs (rs.filter fun r => !p r) (rs.filter p) :=
  ⟨List.filter_sublist, List.perm_append_comm.trans (List.filter_append_perm p rs)⟩

/-- Every split that a cut to the mark makes is one (R138 to R141). -/
theorem splits_markCut (m : Mark) (rs : List Record) : Splits rs (markCut m rs).1 (markCut m rs).2.1 := by
  unfold markCut
  split
  · simpa only [List.takeWhile_append_dropWhile] using
      splits_append (rs.takeWhile fun r => r.seq != m.seq) (rs.dropWhile fun r => r.seq != m.seq)
  · simpa using splits_append rs []
  · simpa using splits_append rs []
  · exact splits_filter _ rs
  · exact splits_all rs

theorem Splits.pages {rs kept removed : List Record} (h : Splits rs kept removed) :
    (recordsPages rs).Perm (recordsPages kept ++ recordsPages removed) := by
  obtain ⟨-, perm⟩ := h
  rw [← recordsPages_append]
  exact recordsPages_perm perm.symm

/-- A lane whose records `removed` left the line, `kept` staying (R75). -/
def LaneBody.remove (b : LaneBody) (kept removed : List Record) (why : GoneReason) : LaneBody :=
  { b with dl.records := kept, dl.mark := markLeaves b.dl.mark (removed.map (·.seq)) why }

/-- Records leave the line, and a mark on one of them is GONE (R75). -/
theorem LaneBody.lineStep_remove (b : LaneBody) {rs kept removed : List Record} (h : Splits rs kept removed)
    (why : GoneReason) (hrs : b.dl.records = rs := by rfl) :
    b.LineStep (b.remove kept removed why) (recordsPages removed) where
  carry := fun ⟨carried, arriving⟩ => ⟨fun r hr => carried r (hrs ▸ h.mem.mpr (.inl hr)), arriving⟩
  pages := by
    simp only [LaneBody.pages_eq, LaneBody.remove, hrs, List.perm_iff_count, List.count_append]
    intro a
    have := h.pages.count_eq a
    rw [List.count_append] at this
    omega
  room := Nat.add_le_add_right (hrs ▸ h.1.length_le : kept.length ≤ b.dl.records.length) _
  fit := fun n ⟨arriving, held, hold⟩ => ⟨arriving, fun r hr => held r (hrs ▸ h.mem.mpr (.inl hr)), hold⟩
  seqs := List.Sublist.append ((hrs ▸ h.1 : kept.Sublist b.dl.records).map _) (.refl _)
  mark := LaneBody.markPlaced_of_leaves rfl rfl rfl fun q hq stays => by
    obtain ⟨r, hr, rfl⟩ := List.mem_map.mp hq
    rcases h.mem.mp (hrs ▸ hr) with hr | hr
    · exact List.mem_map_of_mem hr
    · exact absurd (List.mem_map_of_mem hr) stays

/-- A lane with its packet lists replaced. -/
def LaneBody.withLists (b : LaneBody) (carried departing : List Packet) : LaneBody :=
  { b with dl.carried := carried, dl.departing := departing }

/-- The packet lists change within their bound. -/
theorem LaneBody.lineStep_lists (b : LaneBody) {carried departing : List Packet}
    (h : b.dl.Within → carried.length ≤ 32 ∧ departing.length ≤ 32) :
    b.LineStep (b.withLists carried departing) [] where
  lists := h

/-! ### The in-arrival frame -/

/-- A lane whose in-arrival frame left it (R65, R66). -/
def LaneBody.leave (b : LaneBody) (f : InArrival) : LaneBody :=
  { b with intake.arrival := none, dl.mark := markArrives b.dl.mark f.seq (.gone .removed) }

/-- The in-arrival frame leaves the lane and gives up its pages; a mark on it is GONE (R65, R66, R74). -/
theorem LaneBody.lineStep_leave (b : LaneBody) {f : InArrival} (h : b.intake.arrival = some f) :
    b.LineStep (b.leave f) f.pages where
  intake := fun ⟨ticks, owed, _⟩ => ⟨ticks, owed, fun _ none => by cases none⟩
  carry := fun ⟨carried, _⟩ => ⟨carried, fun _ none => by cases none⟩
  pages := by
    simp only [LaneBody.pages_eq, LaneBody.leave, arrivalPages, h, List.perm_iff_count, List.count_append, Option.map_some, Option.map_none,
      Option.getD_some, Option.getD_none, List.count_nil]
    omega
  waits _ := rfl
  room := by simp [LaneBody.frameCount, LaneBody.h, LaneBody.leave]
  fit := fun n ⟨_, held, hold⟩ => ⟨fun _ none => (by cases none), held, hold⟩
  seqs := by simp [LaneBody.seqs, LaneBody.leave]
  mark placed := by
    rw [LaneBody.markPlaced_iff] at placed ⊢
    intro m hm
    obtain ⟨k, hk, rfl⟩ := Option.map_eq_some_iff.mp hm
    have place := placed k hk
    unfold Mark.Placed at place ⊢
    cases standing : k.standing <;> simp_all [LaneBody.leave]

/-- A lane whose in-arrival frame joined the line as the record `r` (R52, R82). -/
def LaneBody.join (b : LaneBody) (f : InArrival) (r : Record) : LaneBody :=
  { b with
    intake.arrival := none, dl.records := b.dl.records ++ [r], dl.carried := []
    dl.mark := markArrives b.dl.mark f.seq .held }

/-- The completed frame joins the line with its pages and takes the carried-packet list before its own; a mark on it is HELD
(R52, R74, R82). -/
theorem LaneBody.lineStep_join (b : LaneBody) {f : InArrival} {r : Record} (h : b.intake.arrival = some f)
    (seq : r.seq = f.seq) (pages : r.pages = f.pages)
    (copy : b.CarryKept → r.carryCopy = r.carriedPrefix ++ carryPackets r.own) :
    b.LineStep (b.join f r) [] where
  intake := fun ⟨ticks, owed, _⟩ => ⟨ticks, owed, fun _ none => by cases none⟩
  lists := fun ⟨_, departing⟩ => ⟨Nat.zero_le _, departing⟩
  carry := fun kept => ⟨fun x hx => by
    rcases List.mem_append.mp hx with hx | hx
    · exact kept.1 x hx
    · cases List.mem_singleton.mp hx
      exact copy kept, fun _ none => by cases none⟩
  pages := by
    simp only [LaneBody.pages_eq, LaneBody.join, arrivalPages, h, List.perm_iff_count, List.count_append, Option.map_some, Option.map_none,
      Option.getD_some, Option.getD_none, List.count_nil, recordsPages_append]
    simp only [recordsPages, List.flatMap_cons, List.flatMap_nil, List.append_nil, pages]
    omega
  waits _ := rfl
  room := by simp [LaneBody.frameCount, LaneBody.h, LaneBody.join, h]
  fit := fun n ⟨arriving, held, hold⟩ => ⟨fun _ none => (by cases none), fun x hx => by
    rcases List.mem_append.mp hx with hx | hx
    · exact held x hx
    · cases List.mem_singleton.mp hx
      exact pages ▸ arriving f h, hold⟩
  seqs := by simp [LaneBody.seqs, LaneBody.join, h, seq]
  mark placed := by
    rw [LaneBody.markPlaced_iff] at placed ⊢
    intro m hm
    obtain ⟨k, hk, rfl⟩ := Option.map_eq_some_iff.mp hm
    have place := placed k hk
    unfold Mark.Placed at place ⊢
    cases standing : k.standing <;> simp_all [LaneBody.join]

/-- A lane with Frame Intake's counts replaced (R62, R66). -/
def LaneBody.withCounts (b : LaneBody) (ticks owed : Nat) (loss : Bool) : LaneBody :=
  { b with intake.ticksSince := ticks, intake.owed := owed, intake.loss := loss }

/-- Frame Intake's counts change within their bounds (R62, R66). -/
theorem LaneBody.lineKeeps_counts (b : LaneBody) {ticks owed : Nat} {loss : Bool} (hticks : b.intake.Within → ticks ≤ 3)
    (howed : b.intake.Within → owed ≤ 3) : b.LineKeeps (b.withCounts ticks owed loss) [] where
  intake := fun within => ⟨hticks within, howed within, within.2.2⟩

theorem LaneBody.lineStep_counts (b : LaneBody) {ticks owed : Nat} {loss : Bool} (hticks : b.intake.Within → ticks ≤ 3)
    (howed : owed ≤ b.intake.owed) : b.LineStep (b.withCounts ticks owed loss) [] where
  toKeeps := (b.lineKeeps_counts hticks fun within => howed.trans within.2.1).toKeeps
  owed := howed

theorem carryPackets_append (xs ys : List OwnPacket) : carryPackets (xs ++ ys) = carryPackets xs ++ carryPackets ys := by
  simp [carryPackets]

theorem carryOwn_eq : carryOwn = carryPackets := rfl

/-- An in-arrival frame after one more accepted packet, with the own packets that the packet makes (R55, R70). -/
def InArrival.accept (f : InArrival) (own : List OwnPacket) : InArrival :=
  { f with accepted := f.accepted + 1, own := f.own ++ own, carryCopy := f.carryCopy ++ carryOwn own }

/-- A packet joins the in-arrival frame, the carry store's copy with it (R55, R70). -/
theorem LaneBody.lineStep_packet (b : LaneBody) {f : InArrival} (h : b.intake.arrival = some f) (room : ¬32 ≤ f.accepted)
    (own : List OwnPacket) :
    b.LineStep (b.withFrames b.dl.records (some (f.accept own))) [] where
  intake := fun ⟨ticks, owed, _⟩ => ⟨ticks, owed, by rintro _ ⟨⟩; exact Nat.lt_of_not_le room⟩
  carry := fun ⟨carried, arriving⟩ => ⟨carried, by
    rintro _ ⟨⟩
    simp only [InArrival.accept]
    rw [carryPackets_append, ← arriving f h, carryOwn_eq]⟩
  pages := by simp [LaneBody.pages_eq, arrivalPages, h, LaneBody.withFrames, InArrival.accept]
  waits waiting := by rw [h] at waiting; cases waiting
  room := by simp [LaneBody.frameCount, LaneBody.h, h, LaneBody.withFrames]
  fit := fun n ⟨arriving, held, hold⟩ => ⟨by rintro _ ⟨⟩; exact arriving f h, held, hold⟩
  seqs := by simp [LaneBody.seqs, h, LaneBody.withFrames, InArrival.accept]
  mark := by simp [LaneBody.markPlaced_iff, h, LaneBody.withFrames, InArrival.accept]

/-! ### Playout -/

theorem cadencePeriod_pos (r : Fin 8) : 0 < cadencePeriod r := by revert r; decide

/-- An emitted frame (R90). -/
theorem LaneBody.lineStep_emit (b : LaneBody) (video : Picture) (audio : List (List Sample))
    (packets : List (PacketType × List Byte)) (level : Nat) : b.LineStep (b.emit video audio packets level) [] where
  lists := fun ⟨carried, departing⟩ => ⟨carried, by
    rw [LaneBody.emit, List.length_drop]
    omega⟩
  play := fun ⟨_, tone, quiet, fill⟩ => ⟨Nat.mod_lt _ (cadencePeriod_pos _), tone, by
    show quietAfter b.play.quietRun _ _ ≤ 255
    unfold quietAfter
    split
    · exact satAdd_le quiet
    · omega, fill⟩

/-- The pages that a departure frees are the old hold's where the record becomes the hold, its own otherwise (R33, R34). -/
theorem LaneBody.lineStep_departed (b : LaneBody) {r : Record} {rest : List Record} (d : Option Damage)
    (h : b.dl.records = r :: rest) : b.LineStep (b.departed r rest d) (b.departureFrees r d) := by
  refine (b.lineStep_emit (b.departurePicture r d)
    (if b.fills r then b.applyFill (b.recordAudio r d) else b.recordAudio r d)
    (if audioDamaged d then [] else r.outPackets) (b.departureLevel r d)).trans ?_
  exact {
    play := fun ⟨phase, tone, quiet, fill⟩ => ⟨phase, by
      show (if b.fills r then _ else _) < 48
      split
      · exact Nat.mod_lt _ (by decide)
      · exact tone, quiet, fill⟩
    carry := fun ⟨carried, arriving⟩ => ⟨fun x hx => carried x (by
      show x ∈ b.dl.records
      exact h ▸ List.mem_cons_of_mem r hx), arriving⟩
    pages := by
      simp only [LaneBody.pages_eq, LaneBody.departed, LaneBody.emit, LaneBody.departureFrees, h, holdPages]
      split <;> simp only [List.perm_iff_count, List.count_append, recordsPages, List.flatMap_cons, Option.map_some,
        Option.getD_some] <;> omega
    room := by simp [LaneBody.frameCount, LaneBody.h, LaneBody.departed, LaneBody.emit, h]
    fit := fun n ⟨arriving, held, hold⟩ => by
      have held' : ∀ x ∈ r :: rest, x.pages.length ≤ n := h ▸ held
      refine ⟨arriving, fun x hx => held' x (List.mem_cons_of_mem r hx), fun x hx => ?_⟩
      change (if becomesHold r d then _ else _) = _ at hx
      split at hx
      · cases hx
        exact held' r List.mem_cons_self
      · exact hold x hx
    seqs := by simp [LaneBody.seqs, LaneBody.departed, LaneBody.emit, h]
    mark := LaneBody.markPlaced_of_leaves (left := [r.seq]) (why := .aired) rfl rfl rfl fun q hq stays => by
      show q ∈ rest.map (·.seq)
      have : q ∈ (r :: rest).map (·.seq) := h ▸ hq
      simpa [List.mem_singleton.not.mp stays] using this }

end Sys2Proof.Machine

namespace Sys2Proof.Machine

section
variable {K : LaneBody → LaneBody → List PageNo → Prop} {s t : State} {l : Lane} {b c : LaneBody}

/-! ### Cuts -/

theorem joinTail_length {list offered : List Packet} (h : list.length ≤ 32) : (joinTail list offered).1.length ≤ 32 :=
  (joinTail_spec h).1

theorem joinFront_length {list batch : List Packet} (h : list.length ≤ 32) : (joinFront list batch).1.length ≤ 32 :=
  (joinFront_spec h).1

theorem map_core_markDiscard (f : Option InArrival) : (f.map (·.markDiscard)).map (·.core) = f.map (·.core) := by
  cases f <;> rfl

/-- A cut of the lane `b`, which may differ already from the lane `c` that it is made on (R131, R132). -/
theorem State.moves_cut (hc : s.body? l = some c) (hK : ∀ d ps, b.LineStep d ps → K c d ps) {kept removed : List Record}
    (split : Splits b.dl.records kept removed) (kind : CutKind) (takeArrival mapped : Bool) :
    s.Moves K (s.cut l b kind kept removed takeArrival mapped).1 := by
  unfold State.cut
  dsimp only
  generalize hoffer : recordsCarry removed ++ _ = offer
  have arrival (x : Bool) : b.LineStep
      (b.withFrames b.dl.records (if x then b.intake.arrival.map (·.markDiscard) else b.intake.arrival)) [] := by
    refine b.lineStep_frames rfl ?_
    cases x
    · rfl
    · exact map_core_markDiscard _
  have lists := (arrival (takeArrival && b.removableArrival)).trans (LaneBody.lineStep_lists _
    (carried := (joinTail b.dl.carried offer).1) (departing := b.dl.departing)
    fun ⟨carried, departing⟩ => ⟨joinTail_length carried, departing⟩)
  exact (((State.Moves.refl s).freeing hc (hK _ _ (lists.trans (LaneBody.lineStep_remove _ split .removed)))).dropPackets
    l _ _).post _ _

theorem State.moves_mapCut (s : State) (f : Lane) (kind : CutKind) (first last : Seq) :
    s.Moves LaneBody.LineStep (s.mapCut f kind first last) := by
  unfold State.mapCut
  split
  · exact .refl s
  · next b hb =>
    split
    · exact .refl s
    · next k hk =>
      exact State.moves_cut hb (fun _ _ h => (b.lineStep_discardThrough _ (by rw [hk]; rfl)).trans h) (splits_filter _ _)
        _ _ _

theorem State.moves_mapExit (s : State) (f : Lane) (last : Seq) : s.Moves LaneBody.Step (s.mapExit f last) := by
  unfold State.mapExit
  split
  · exact .refl s
  · next b hb =>
    split
    · exact .refl s
    · next k hk =>
      refine State.moves_cut hb (fun _ _ h => LaneBody.Step.trans ?_ h.toStep) (splits_all _) _ _ _
      exact (b.step_discardThrough (if k.leaderMoved then raiseDiscard b.intake.discardThrough (last - k.off)
        else b.intake.discardThrough)).trans (LaneBody.step_link _ (some { k with pending := 0 }))

theorem State.moves_leadCut (hb : s.body? l = some b) {kept removed : List Record}
    (split : Splits b.dl.records kept removed) (kind : CutKind) (takeArrival : Bool) :
    s.Moves LaneBody.LineStep (s.leadCut l b kind kept removed takeArrival).1 := by
  have own := State.moves_cut hb (fun _ _ h => h) split kind takeArrival false
  unfold State.leadCut
  dsimp only
  split
  · exact own
  · exact own.foldl _ fun u f => State.moves_mapCut u f _ _ _

/-- A message on a configured lane keeps what its effect there keeps. -/
theorem onConfigured_keeps {P : State → Prop} {k : LaneBody → State × Answer} (hs : P s)
    (h : ∀ b, s.body? l = some b → P (k b).1) : P (onConfigured s l k).1 := by
  unfold onConfigured
  split
  · exact hs
  · next b hb => exact h b hb

/-- So does one on a lane that is no follower. -/
theorem onIndependent_keeps {P : State → Prop} {k : LaneBody → State × Answer} (hs : P s)
    (h : ∀ b, s.body? l = some b → b.link = none → P (k b).1) : P (onIndependent s l k).1 := by
  refine onConfigured_keeps hs fun b hb => ?_
  split
  · exact hs
  · next free => exact h b hb (by simpa using free)

theorem State.moves_dump (s : State) (l : Lane) : s.Moves LaneBody.LineStep (s.dump l).1 := by
  refine onIndependent_keeps (.refl s) fun b hb _ => ?_
  split
  · exact .refl s
  · exact State.moves_leadCut hb (splits_take_drop _ _) _ _

theorem State.moves_cutToMark (s : State) (l : Lane) : s.Moves LaneBody.LineStep (s.cutToMark l).1 := by
  refine onIndependent_keeps (.refl s) fun b hb _ => ?_
  split
  · exact .refl s
  · split
    · exact .refl s
    · exact (State.moves_leadCut hb (splits_markCut _ _) _ _).modBody l fun c _ => c.lineStep_noMark

/-! ### Lane states -/

theorem State.moves_putMode (s : State) (l : Lane) (m : Mode) (cause : Cause) :
    s.Moves LaneBody.Step (s.putMode l m cause) :=
  ((State.Moves.refl s).modBody l fun b _ => b.step_mode m).post _ _

theorem State.moves_followMode (s : State) (f : Lane) (m : Mode) : s.Moves LaneBody.Step (s.followMode f m) := by
  unfold State.followMode
  dsimp only
  split
  · exact (State.moves_putMode s f m .leader).modBody f fun b _ => (b.lineStep_gov GovState.within_entersPass).toStep
  · exact State.moves_putMode s f m .leader

theorem State.moves_changeMode (s : State) (l : Lane) (m : Mode) (cause : Cause) :
    s.Moves LaneBody.Step (s.changeMode l m cause) := by
  refine (State.moves_putMode s l m cause).foldl _ fun u f => ?_
  split
  · exact .refl u
  · split
    · exact .refl u
    · exact State.moves_followMode u f m

theorem State.moves_setGov (hb : s.body? l = some b) {g : GovState} (within : b.gov.Within → g.Within) :
    s.Moves LaneBody.LineStep (s.setBody l (some (b.withGov g))) :=
  (State.Moves.refl s).setBody hb (b.lineStep_gov within)

theorem State.Moves.toStep (h : s.Moves LaneBody.LineStep t) : s.Moves LaneBody.Step t :=
  h.mono fun _ _ _ h => h.toStep

theorem State.Moves.toLineKeeps (h : s.Moves LaneBody.LineStep t) : s.Moves LaneBody.LineKeeps t :=
  h.mono fun _ _ _ h => h.toLineKeeps

theorem State.Moves.toKeeps (h : s.Moves LaneBody.Step t) : s.Moves LaneBody.Keeps t :=
  h.mono fun _ _ _ h => h.toKeeps

theorem State.moves_exitGentle (s : State) (l : Lane) (cause : Cause) :
    s.Moves LaneBody.Step (s.exitGentle l cause).1 := by
  refine onIndependent_keeps (.refl s) fun b hb _ => ?_
  have drained : s.Moves LaneBody.Step ((s.setBody l (some (b.withGov
      (if b.gov.engaged then b.gov else { b.gov with engaged := true, since := 0 })))).changeMode l .drain cause) := by
    refine (State.moves_setGov hb ?_).toStep.trans (State.moves_changeMode _ l .drain cause)
    intro within
    split
    · exact within
    · exact ⟨Nat.zero_le _, within.2⟩
  dsimp only
  split
  · exact .refl s
  · exact .refl s
  all_goals exact drained

theorem State.moves_enter (s : State) (l : Lane) (cause : Cause) : s.Moves LaneBody.Step (s.enter l cause).1 := by
  refine onIndependent_keeps (.refl s) fun b hb _ => ?_
  dsimp only
  split
  · exact .refl s
  · exact .refl s
  · exact (State.moves_setGov hb (g := { b.gov with engaged := true, since := 0 })
      fun within => ⟨Nat.zero_le _, within.2⟩).toStep.trans (State.moves_changeMode _ l _ cause)
  · split
    · exact (State.moves_setGov hb (g := { b.gov with engaged := false }) id).toStep.trans
        (State.moves_changeMode _ l _ cause)
    · exact State.moves_changeMode s l _ cause
  · exact .refl s

theorem State.moves_exitNow (s : State) (l : Lane) : s.Moves LaneBody.Step (s.exitNow l).1 := by
  refine onIndependent_keeps (.refl s) fun b hb _ => ?_
  split
  · exact .refl s
  · have own := State.moves_cut hb (fun _ _ h => h.toStep) (splits_all _) .exit true false
    refine ((own.foldl _ fun u f => State.moves_mapExit u f _).modBody l fun c _ => ?_).trans
      (State.moves_changeMode _ l .pass .message)
    exact (c.lineStep_gov GovState.within_entersPass).toStep

theorem State.moves_setMark (s : State) (l : Lane) : s.Moves LaneBody.LineStep (s.setMark l).1 :=
  onIndependent_keeps (.refl s) fun b hb _ => (State.Moves.refl s).setBody hb b.lineStep_newMark

/-! ### Covers -/

theorem LaneBody.lineStep_onset (b : LaneBody) : b.LineStep b.onset [] := by
  refine b.lineStep_frames ?_ (by cases b.intake.arrival <;> rfl)
  rw [List.map_append, List.map_map]
  conv_rhs => rw [← List.take_append_drop (b.h - min b.timing.lead.frames b.h) b.dl.records, List.map_append]
  rfl

theorem LaneBody.step_cover (b : LaneBody) (src : CoverSource) : b.Step (b.cover src) [] := by
  unfold LaneBody.cover
  dsimp only
  split
  · exact (b.step_sources _).trans (LaneBody.lineStep_onset _).toStep
  · exact b.step_sources _

theorem LaneBody.step_uncover (b : LaneBody) (src : CoverSource) : b.Step (b.uncover src) [] := b.step_sources _

theorem State.moves_addSource (s : State) (l : Lane) (src : CoverSource) : s.Moves LaneBody.Step (s.addSource l src) := by
  have own := (State.Moves.refl s).modBody l fun b _ => b.step_cover src
  unfold State.addSource
  dsimp only
  split
  · exact own.foldl _ fun u f => (State.Moves.refl u).modBody f fun b _ => b.step_cover .leader
  · exact own

theorem State.moves_removeSource (s : State) (l : Lane) (src : CoverSource) :
    s.Moves LaneBody.Step (s.removeSource l src) := by
  have own := (State.Moves.refl s).modBody l fun b _ => b.step_uncover src
  unfold State.removeSource
  dsimp only
  split
  · exact own.foldl _ fun u f => (State.Moves.refl u).modBody f fun b _ => b.step_uncover .leader
  · exact own

theorem State.moves_requestCover (s : State) (l : Lane) (src : CoverSource) (on : Bool) :
    s.Moves LaneBody.Step (s.requestCover l src on).1 := by
  refine onIndependent_keeps (.refl s) fun b hb _ => ?_
  cases on
  · exact State.moves_removeSource s l src
  · exact State.moves_addSource s l src

/-! ### Links -/

theorem State.moves_makeIndependent (s : State) (f : Lane) : s.Moves LaneBody.Step (s.makeIndependent f) := by
  unfold State.makeIndependent
  split
  · exact .refl s
  · next b hb =>
    have freed (e : Bool) : s.Moves LaneBody.Step (s.setBody f (some
        ((((b.withGov { b.gov with engaged := e, since := 0 }).withLink none).withDiscardThrough none).uncover .leader))) :=
      (State.Moves.refl s).setBody hb
        ((((b.lineStep_gov (g := { b.gov with engaged := e, since := 0 })
          fun within => ⟨Nat.zero_le _, within.2⟩).toStep.trans (LaneBody.step_link _ none)).trans
          (LaneBody.step_discardThrough _ none)).trans (LaneBody.step_uncover _ .leader))
    dsimp only
    split
    · exact (freed _).trans (State.moves_putMode _ f .drain .unlinked)
    · exact freed _

theorem State.moves_linkLanes (s : State) (f l : Lane) : s.Moves LaneBody.Step (s.linkLanes f l).1 := by
  refine onConfigured_keeps (.refl s) fun fb hf => onConfigured_keeps (.refl s) fun lb _ => ?_
  dsimp only
  split
  · have linked : fb.Step ((fb.withLink (some
        { leader := l, off := lb.intake.nextSeq - fb.intake.nextSeq, pending := 0, leaderMoved := false })).withDiscardThrough
        none) [] := (fb.step_link _).trans (LaneBody.step_discardThrough _ none)
    refine (State.Moves.refl s).setBody hf ?_
    split
    · exact linked
    · exact linked.trans (LaneBody.step_cover _ .leader)
  · exact .refl s

theorem State.moves_unlink (s : State) (f : Lane) : s.Moves LaneBody.Step (s.unlink f).1 := by
  refine onConfigured_keeps (.refl s) fun b _ => ?_
  split
  · exact State.moves_makeIndependent s f
  · exact .refl s

/-! ### Frame Intake -/

theorem headBatches_length {list : List Packet} (rs : List Record) (h : list.length ≤ 32) :
    (headBatches list rs).1.length ≤ 32 := by
  induction rs generalizing list with
  | nil => exact h
  | cons r rs ih => exact ih (joinFront_length h)

theorem State.moves_fullLineCheck (s : State) (l : Lane) : s.Moves LaneBody.LineStep (s.fullLineCheck l) := by
  unfold State.fullLineCheck
  cases hb : s.body? l with
  | none => exact .refl s
  | some b =>
    dsimp only
    have lists := b.lineStep_lists (carried := b.dl.carried)
      (departing := (headBatches b.dl.departing (b.dl.records.take b.excess)).1)
      fun ⟨carried, departing⟩ => ⟨carried, headBatches_length _ departing⟩
    have gone := lists.trans (LaneBody.lineStep_remove _ (splits_drop_take b.excess b.dl.records) .removed)
    have checked := ((State.Moves.refl s).freeing hb gone).dropPackets l true
      (headBatches b.dl.departing (b.dl.records.take b.excess)).2
    split
    · exact checked.count l _ _
    · exact (checked.count l _ _).foldl _ fun u r => (State.Moves.refl u).post _ _

/-- An in-arrival frame's completion (R46, R47), of the lane as it stands. -/
theorem State.moves_completeFrame {f : InArrival} (hb : s.body? l = some b) (hf : b.intake.arrival = some f) (d : Delivery)
    (truncated : Bool) : s.Moves LaneBody.LineStep (s.completeFrame l b f d truncated) := by
  unfold State.completeFrame
  dsimp only
  generalize (rasterMatches b.fmt.vclass f.raster && d.whole && !truncated) = good
  have posted : s.Moves LaneBody.LineStep (if b.intake.loss then s.post (some l) (.input true) else s) ∧
      (if b.intake.loss then s.post (some l) (.input true) else s).body? l = some b := by
    split
    · exact ⟨(State.Moves.refl s).post _ _, hb⟩
    · exact ⟨.refl s, hb⟩
  generalize (if b.intake.loss then s.post (some l) (.input true) else s) = u at posted ⊢
  obtain ⟨moved, hu⟩ := posted
  have written := moved.writes (completionWrites b.fmt.vclass f d good)
  have hu' : ({ u with store := u.store.writePages (completionWrites b.fmt.vclass f d good) } : State).body? l = some b := hu
  generalize ({ u with store := u.store.writePages (completionWrites b.fmt.vclass f d good) } : State) = v at written hu' ⊢
  have counts := b.lineStep_counts (ticks := 0) (loss := false) (owed := if b.intake.loss then 0 else b.intake.owed)
    (fun _ => Nat.zero_le _) (by split <;> omega)
  split
  · have lists := counts.trans (LaneBody.lineStep_lists _ (carried := (joinTail b.dl.carried f.carryCopy).1)
      (departing := b.dl.departing) fun ⟨carried, departing⟩ => ⟨joinTail_length carried, departing⟩)
    exact (written.freeing hu' (lists.trans (LaneBody.lineStep_leave _ hf))).dropPackets l _ _
  · have joined := counts.trans (LaneBody.lineStep_join _ (r := b.recordOf f d good) hf rfl rfl fun kept => by
      show b.dl.carried ++ f.carryCopy = b.dl.carried ++ carryPackets f.own
      rw [kept.2 f hf])
    have set := written.setBody hu' joined
    have counted (x : Prop) [Decidable x] (k : Counter) {w : State} (hw : s.Moves LaneBody.LineStep w) :
        s.Moves LaneBody.LineStep (if x then w.count l k 1 else w) := by
      split
      · exact hw.count l k 1
      · exact hw
    exact counted _ .formatMismatch (counted _ .malformed set)

theorem State.moves_truncateArrival (s : State) (l : Lane) (d : Delivery) :
    s.Moves LaneBody.LineStep (s.truncateArrival l d) := by
  unfold State.truncateArrival
  split
  · exact .refl s
  · next b hb =>
    split
    · exact .refl s
    · next f hf => exact State.moves_completeFrame hb hf d true

theorem State.moves_abandon {f : InArrival} (hb : s.body? l = some b) (base : b.LineStep c [])
    (hf : c.intake.arrival = some f) : s.Moves LaneBody.LineStep (s.abandon l c f) := by
  have lists := base.trans (c.lineStep_lists (carried := (joinTail c.dl.carried f.carryCopy).1)
    (departing := c.dl.departing) fun ⟨carried, departing⟩ => ⟨joinTail_length carried, departing⟩)
  exact ((State.Moves.refl s).freeing hb (lists.trans (LaneBody.lineStep_leave _ hf))).dropPackets l _ _

theorem State.moves_routePacket {f : InArrival} (hb : s.body? l = some b) (hf : b.intake.arrival = some f)
    (room : ¬32 ≤ f.accepted) (ty : PacketType) (payload : List Byte) :
    s.Moves LaneBody.LineStep (s.routePacket l b f ty payload) := by
  have accepted (own : List OwnPacket) : s.Moves LaneBody.LineStep (s.setBody l (some
      (b.withFrames b.dl.records (some (f.accept own))))) := (State.Moves.refl s).setBody hb (b.lineStep_packet hf room own)
  have bare : f.accept [] = { f with accepted := f.accepted + 1 } := by simp [InArrival.accept, carryOwn]
  unfold State.routePacket
  dsimp only
  cases b.intake.classOf ty with
  | live =>
    have lists := (b.lineStep_packet hf room []).trans (LaneBody.lineStep_lists _ (carried := b.dl.carried)
      (departing := (joinTail b.dl.departing [{ source := .live, type := ty, payload := payload }]).1)
      fun ⟨carried, departing⟩ => ⟨carried, joinTail_length departing⟩)
    rw [bare] at lists
    exact ((State.Moves.refl s).setBody hb lists).dropPackets l _ _
  | delay => exact accepted [_]
  | carry => exact accepted [_]
  | drop => exact bare ▸ accepted []

end

end Sys2Proof.Machine

namespace Sys2Proof.Machine

section
variable {K : LaneBody → LaneBody → List PageNo → Prop} {s t : State} {l : Lane} {b c : LaneBody}

/-! ### The governor -/

theorem GovState.within_acts {g : GovState} (h : g.Within) (a : Action) : (g.acts a).Within := by
  obtain ⟨since, inserts, skips⟩ := h
  cases a
  · exact ⟨since, inserts, skips⟩
  · exact ⟨since, satAdd_le inserts, skips⟩
  · exact ⟨since, inserts, satAdd_le skips⟩

theorem LaneBody.reachDecision_within (b : LaneBody) {g : GovState} (h : g.Within) (m : Mode) (dev : Int) :
    (b.reachDecision g m dev).gov.Within := by
  unfold LaneBody.reachDecision
  split
  · exact h
  · dsimp only
    generalize (if b.actionDue (satAdd 65535 g.since 1) then b.dueAction dev (satAdd 65535 g.since 1)
      else Action.nothing) = action
    apply GovState.within_acts
    refine ⟨?_, h.2⟩
    dsimp only
    split
    · exact satAdd_le h.1
    · exact Nat.zero_le _

theorem LaneBody.governorStep_within (b : LaneBody) (h : b.gov.Within) : b.governorStep.gov.Within := by
  have noted : ({ b.gov with dev := b.deviation, ticked := true } : GovState).Within := h
  unfold LaneBody.governorStep
  dsimp only
  split
  · exact b.reachDecision_within noted _ _
  · split_ifs
    · exact h
    · exact b.reachDecision_within noted _ _
    · exact ⟨Nat.zero_le _, h.2⟩
    · exact h

theorem State.moves_adjustPending (s : State) (l f : Lane) (a : Action) : s.Moves LaneBody.Step (s.adjustPending l f a) := by
  unfold State.adjustPending
  split
  · exact .refl s
  · dsimp only
    split
    · exact (State.Moves.refl s).modBody f fun b _ => b.step_link _
    · exact ((State.Moves.refl s).count f _ _).post _ _

theorem State.moves_handAction (s : State) (l : Lane) (a : Action) : s.Moves LaneBody.Step (s.handAction l a) := by
  unfold State.handAction
  split
  · exact .refl s
  · exact (State.Moves.refl s).foldl _ fun u f => State.moves_adjustPending u l f a

theorem State.moves_independentAction (hc : s.body? l = some c) (base : c.LineStep b []) :
    s.Moves LaneBody.Step (s.independentAction l b).1 := by
  have set {g : GovState} (within : b.gov.Within → g.Within) : s.Moves LaneBody.Step (s.setBody l (some (b.withGov g))) :=
    ((State.Moves.refl s).setBody hc (base.trans (b.lineStep_gov within))).toStep
  unfold State.independentAction
  dsimp only
  split
  · exact set (g := { b.gov with dev := b.deviation, ticked := true }) id
  · split
    · exact (set (g := { ({ b.gov with dev := b.deviation, ticked := true } : GovState).entersPass with dev := 0 })
        fun h => GovState.within_entersPass h).trans (State.moves_changeMode _ l _ _)
    · have decided := set (g := b.governorStep.gov) b.governorStep_within
      split
      · exact decided.trans (State.moves_handAction _ l _)
      · exact (decided.trans (State.moves_changeMode _ l _ _)).trans (State.moves_handAction _ l _)

theorem State.moves_dropOwed (s : State) (f leader : Lane) (b : LaneBody) :
    s.Moves LaneBody.Step (s.dropOwed f leader b) :=
  (((State.Moves.refl s).modBody f fun b _ => b.step_link _).count f _ _).post _ _

theorem State.moves_endDrain (s : State) (f leader : Lane) : s.Moves LaneBody.Step (s.endDrain f leader) := by
  unfold State.endDrain
  split
  · exact .refl s
  · split
    · exact State.moves_followMode s f .pass
    · exact .refl s

theorem State.moves_followerAction {k : FollowerLink} (hc : s.body? l = some c) (base : c.LineStep b []) :
    s.Moves LaneBody.Step (s.followerAction l b k).1 := by
  have set {g : GovState} (within : b.gov.Within → g.Within) : c.Step (b.withGov g) [] :=
    (base.trans (b.lineStep_gov within)).toStep
  unfold State.followerAction
  dsimp only
  split
  · exact (((State.Moves.refl s).setBody hc (set (g := { b.gov with dev := b.deviation, ticked := true }) id)).trans
      (State.moves_dropOwed _ l k.leader b)).trans (State.moves_endDrain _ l k.leader)
  · have paid := (set (g := ({ b.gov with dev := b.deviation, ticked := true } : GovState).acts b.owedAction)
      fun h => GovState.within_acts (g := { b.gov with dev := b.deviation, ticked := true }) h _).trans (LaneBody.step_link _ (some { k with pending := k.pending - b.owedAction.owed }))
    exact ((State.Moves.refl s).setBody hc paid).trans (State.moves_endDrain _ l k.leader)

theorem State.moves_settleAction (hb : s.body? l = some b) : s.Moves LaneBody.Step (s.settleAction l b).1 := by
  unfold State.settleAction
  dsimp only
  split
  · exact State.moves_followerAction hb (b.lineStep_depth _)
  · exact State.moves_independentAction hb (b.lineStep_depth _)

/-! ### The emission -/

theorem State.moves_emitRepeat (hb : s.body? l = some b) : s.Moves LaneBody.LineStep (s.emitRepeat l b) :=
  ((State.Moves.refl s).readPages b.holdVideo).setBody ((State.body?_readPages s _ l).trans hb) (b.lineStep_emit _ _ _ _)

theorem State.moves_underrun (hb : s.body? l = some b) : s.Moves LaneBody.LineStep (s.underrun l b) :=
  ((State.moves_emitRepeat hb).count l _ _).post _ _

theorem State.moves_depart (hb : s.body? l = some b) : s.Moves LaneBody.LineStep (s.depart l b) := by
  unfold State.depart
  split
  · exact State.moves_underrun hb
  · next r rest hr =>
    dsimp only
    generalize s.store.damageOf b.fmt.vclass r = d
    have gone := ((State.Moves.refl s).readPages (b.departureReads r d)).freeing
      ((State.body?_readPages s _ l).trans hb) (b.lineStep_departed d hr)
    generalize (((s.readPages (b.departureReads r d)).setBody l (some (b.departed r rest d))).freePages l
      (b.departureFrees r d)) = u at gone ⊢
    have lost : s.Moves LaneBody.LineStep (if audioDamaged d ∧ 0 < r.carriedPrefix.length + r.own.length then
        u.count l .ancLost (r.carriedPrefix.length + r.own.length) else u) := by
      split
      · exact gone.count l _ _
      · exact gone
    cases d with
    | none => exact lost
    | some damage => exact (lost.count l _ _).post _ _

theorem State.moves_skipHead (hb : s.body? l = some b) : s.Moves LaneBody.LineStep (s.skipHead l b) := by
  unfold State.skipHead
  split
  · exact .refl s
  · next r rest hr =>
    have lists := b.lineStep_lists (carried := b.dl.carried) (departing := (joinFront b.dl.departing r.carryCopy).1)
      fun ⟨carried, departing⟩ => ⟨carried, joinFront_length departing⟩
    have gone := lists.trans (LaneBody.lineStep_remove _ (splits_append_comm [r] rest) .removed hr)
    rw [show recordsPages [r] = r.pages from List.append_nil _] at gone
    exact ((State.Moves.refl s).freeing hb gone).dropPackets l _ _

theorem State.moves_onBody {f : State → LaneBody → State} (h : ∀ b, s.body? l = some b → s.Moves K (f s b)) :
    s.Moves K (s.onBody l f) := by
  unfold State.onBody
  split
  · exact .refl s
  · next b hb => exact h b hb

theorem State.moves_emission (s : State) (l : Lane) (a : Action) : s.Moves LaneBody.LineStep (s.emission l a) := by
  unfold State.emission
  cases a with
  | insert => exact State.moves_onBody fun b hb => State.moves_emitRepeat hb
  | nothing => exact State.moves_onBody fun b hb => State.moves_depart hb
  | skip =>
    exact (State.moves_onBody fun b hb => State.moves_skipHead hb).trans
      (State.moves_onBody fun b hb => State.moves_depart hb)

theorem State.moves_playTick (s : State) (l : Lane) : s.Moves LaneBody.Step (s.playTick l) :=
  State.moves_onBody fun _ hb => (State.moves_settleAction hb).trans (State.moves_emission _ l _).toStep

/-! ### Frames that take a seq -/

/-- The in-arrival frame that starts on a lane (R43). -/
def LaneBody.starting (b : LaneBody) (raster : Raster) (pages : List PageNo) : InArrival :=
  { seq := b.intake.nextSeq, pages := pages, covered := !b.dl.sources.isEmpty
    discard := (discardTest b b.intake.nextSeq).1, ticksSeen := 0, accepted := 0, own := [], carryCopy := []
    raster := raster, written := 0 }

/-- A lane on which a frame has started and taken its seq (R43). -/
def LaneBody.begun (b : LaneBody) (raster : Raster) (pages : List PageNo) : LaneBody :=
  { b with
    intake.arrival := some (b.starting raster pages)
    intake.nextSeq := b.intake.nextSeq + 1
    intake.discardThrough := (discardTest b b.intake.nextSeq).2
    dl.mark := markStarts b.dl.mark b.intake.nextSeq .arriving }

/-- A lane on which a fill frame has been made (R63). -/
def LaneBody.filled (b : LaneBody) : LaneBody :=
  { b with
    intake.nextSeq := b.intake.nextSeq + 1
    intake.discardThrough := (discardTest b b.intake.nextSeq).2
    dl.records := if (discardTest b b.intake.nextSeq).1 then b.dl.records else b.dl.records ++ [b.fillRecord]
    dl.mark := markStarts b.dl.mark b.intake.nextSeq
      (if (discardTest b b.intake.nextSeq).1 then .gone .removed else .held) }

@[simp] theorem State.setBody_setBody (s : State) (l : Lane) (x y : Option LaneBody) :
    (s.setBody l x).setBody l y = s.setBody l y := by
  simp [State.setBody]

theorem State.modBody_setBody (s : State) (l : Lane) (b : LaneBody) (f : LaneBody → LaneBody) :
    (s.setBody l (some b)).modBody l f = s.setBody l (some (f b)) := by
  simp [State.modBody]

/-- As a lane takes its next-seq the links of its followers note it, which the link relation does not look at (log 26). -/
theorem State.moves_noteSeq (s : State) (fs : List Lane) :
    s.Moves LaneBody.LineStep (fs.foldl
      (fun t f => t.modBody f fun b => { b with link := b.link.map fun k => { k with leaderMoved := true } }) s) := by
  refine (State.Moves.refl s).foldl fs fun u f => (State.Moves.refl u).modBody f fun b _ => ?_
  exact { linkSide := by cases h : b.link <;> simp [LaneBody.linkSide, h] }

theorem State.moves_beginFrame (s : State) (l : Lane) (b : LaneBody) (raster : Raster) (pages : List PageNo) :
    (s.setBody l (some (b.begun raster pages))).Moves LaneBody.LineStep (s.beginFrame l b raster pages) := by
  unfold State.beginFrame State.takeSeq
  dsimp only
  rw [State.modBody_setBody]
  exact State.moves_noteSeq _ _

/-- A fill is made on the lane as the full-line check leaves it (R63). -/
theorem State.moves_makeFill (s : State) (l : Lane) :
    match (s.fullLineCheck l).body? l with
    | none => s.makeFill l = s.fullLineCheck l
    | some b => ((s.fullLineCheck l).setBody l (some b.filled)).Moves LaneBody.LineStep (s.makeFill l) := by
  unfold State.makeFill
  generalize s.fullLineCheck l = t
  dsimp only
  cases t.body? l with
  | none => rfl
  | some b =>
    dsimp only
    unfold State.takeSeq
    rw [State.modBody_setBody]
    exact State.moves_noteSeq _ _

/-! ### The full-line check -/

/-- A lane after its full-line check (R44). -/
def LaneBody.checked (b : LaneBody) : LaneBody :=
  (b.withLists b.dl.carried (headBatches b.dl.departing (b.dl.records.take b.excess)).1).remove
    (b.dl.records.drop b.excess) (b.dl.records.take b.excess) .removed

/-- The full-line check changes its own lane alone, which it leaves with room for a frame. -/
theorem State.body?_fullLineCheck (s : State) (l k : Lane) :
    (s.fullLineCheck l).body? k = if k = l then (s.body? l).map LaneBody.checked else s.body? k := by
  unfold State.fullLineCheck
  cases hb : s.body? l with
  | none =>
    by_cases h : k = l
    · simp [h, hb]
    · simp [h]
  | some b =>
    have set : (s.setBody l (some b.checked)).body? k = if k = l then some b.checked else s.body? k := by
      split
      · next h => subst h; exact State.body?_setBody_self _ _ _
      · next h => exact State.body?_setBody_ne _ _ h
    rw [Option.map_some, ← set]
    dsimp only
    split
    · simp only [State.body?_count, State.body?_dropPackets, State.body?_freePages]
      rfl
    · rw [foldl_keeps (fun (u : State) (r : Record) => u.post (some l) (.overflow r.seq)) (·.body? k) fun _ _ => rfl]
      simp only [State.body?_count, State.body?_dropPackets, State.body?_freePages]
      rfl

/-- After the check the line is below its limit (R44). -/
theorem LaneBody.checked_room (b : LaneBody) (h : 0 < b.maxH) : b.checked.h < b.lineLimit := by
  have limit : 0 < b.lineLimit := by
    unfold LaneBody.lineLimit
    split <;> omega
  have length : b.checked.h = b.h - b.excess := List.length_drop
  rw [length]
  unfold LaneBody.excess
  split <;> omega

end

end Sys2Proof.Machine

namespace Sys2Proof.Machine

section
variable {K : LaneBody → LaneBody → List PageNo → Prop} {P : State → Prop} {s t : State} {l : Lane} {b c : LaneBody}

/-! ### A frame's completion -/

/-- A lane after an in-arrival frame's completion (R47, R66). -/
def LaneBody.completed (b : LaneBody) (f : InArrival) (d : Delivery) (good : Bool) : LaneBody :=
  let counted := b.withCounts 0 (if b.intake.loss then 0 else b.intake.owed) false
  if f.discard then (counted.withLists (joinTail b.dl.carried f.carryCopy).1 b.dl.departing).leave f
  else counted.join f (b.recordOf f d good)

/-- A completion changes its own lane alone. -/
theorem State.body?_completeFrame (s : State) (l k : Lane) (b : LaneBody) (f : InArrival) (d : Delivery)
    (truncated : Bool) : (s.completeFrame l b f d truncated).body? k = if k = l then
      some (b.completed f d (rasterMatches b.fmt.vclass f.raster && d.whole && !truncated)) else s.body? k := by
  have set (u : State) (hu : u.lanes = s.lanes) (x : LaneBody) :
      (u.setBody l (some x)).body? k = if k = l then some x else s.body? k := by
    split
    · next h => subst h; exact State.body?_setBody_self _ _ _
    · next h => rw [State.body?_setBody_ne _ _ h, State.body?, hu, State.body?]
  unfold State.completeFrame
  dsimp only
  have posted : (if b.intake.loss then s.post (some l) (.input true) else s).lanes = s.lanes := by
    split <;> rfl
  generalize (if b.intake.loss then s.post (some l) (.input true) else s) = u at posted
  generalize (rasterMatches b.fmt.vclass f.raster && d.whole && !truncated) = good
  generalize hw : ({ u with store := u.store.writePages (completionWrites b.fmt.vclass f d good) } : State) = w
  have hw' : w.lanes = s.lanes := by rw [← hw]; exact posted
  unfold LaneBody.completed
  dsimp only
  split
  · rw [State.body?_dropPackets, State.body?_freePages]
    exact set w hw' _
  · have counted (x : Prop) [Decidable x] (k' : Counter) (v : State) :
        (if x then v.count l k' 1 else v).body? k = v.body? k := by
      split
      · exact State.body?_count _ _ _ _ _
      · rfl
    rw [counted, counted]
    exact set w hw' _

theorem LaneBody.completed_arrival (b : LaneBody) (f : InArrival) (d : Delivery) (good : Bool) :
    (b.completed f d good).intake.arrival = none := by
  unfold LaneBody.completed
  dsimp only
  split <;> rfl

/-- After a truncation no frame is arriving on the lane (R46). -/
theorem State.truncateArrival_arrival (hb : (s.truncateArrival l d).body? l = some b) : b.intake.arrival = none := by
  unfold State.truncateArrival at hb
  split at hb
  · next none => rw [none] at hb; cases hb
  · next c hc =>
    split at hb
    · next waiting => rw [hc] at hb; cases hb; exact waiting
    · next f hf =>
      rw [State.body?_completeFrame, if_pos rfl] at hb
      cases hb
      exact c.completed_arrival f d _

/-! ### Frame Intake at a tick -/

/-- A lane whose tick Frame Intake has counted (R62). -/
def LaneBody.ticked (b : LaneBody) (owed : Nat) : LaneBody :=
  (b.withCounts (if b.intake.ticksSince < 3 then b.intake.ticksSince + 1 else b.intake.ticksSince) owed
    (b.intake.loss || b.intake.declares)).withFrames b.dl.records (b.intake.arrival.map (·.seeTick))

theorem map_core_seeTick (f : Option InArrival) : (f.map (·.seeTick)).map (·.core) = f.map (·.core) := by
  cases f <;> rfl

theorem LaneBody.lineKeeps_ticked (b : LaneBody) {owed : Nat} (howed : b.intake.Within → owed ≤ 3) :
    b.LineKeeps (b.ticked owed) [] := by
  refine (b.lineKeeps_counts (fun within => ?_) howed).trans
    (LaneBody.lineStep_frames _ rfl (map_core_seeTick _)).toLineKeeps
  have := within.1
  split <;> omega

theorem LaneBody.lineStep_ticked (b : LaneBody) {owed : Nat} (howed : owed ≤ b.intake.owed) :
    b.LineStep (b.ticked owed) [] where
  toKeeps := (b.lineKeeps_ticked fun within => howed.trans within.2.1).toKeeps
  linkSide := (b.lineKeeps_ticked fun within => howed.trans within.2.1).linkSide
  owed := howed

theorem Intake.due_le (i : Intake) : i.due ≤ 3 := by
  unfold Intake.due
  split_ifs <;> omega

/-- An abandonment changes its own lane alone (R65). -/
theorem State.body?_abandon_self (s : State) (l : Lane) (b : LaneBody) (f : InArrival) : (s.abandon l b f).body? l =
    some ((b.withLists (joinTail b.dl.carried f.carryCopy).1 b.dl.departing).leave f) := by
  unfold State.abandon
  dsimp only
  rw [State.body?_dropPackets, State.body?_freePages]
  exact State.body?_setBody_self _ _ _

/-- Frame Intake's work at a tick is a change of its lane and then the fills due and owed, made while no frame is arriving
(R62 to R65). -/
theorem State.intakeTick_fills (s : State) (l : Lane) : ∃ u n, s.Moves LaneBody.LineKeeps u ∧
    s.intakeTick l = u.makeFills l n ∧
    (n = 0 ∨ (∀ b, s.body? l = some b → n ≤ b.intake.owed + 3) ∧ ∀ c, u.body? l = some c → c.intake.arrival = none) := by
  unfold State.intakeTick
  cases hb : s.body? l with
  | none => exact ⟨s, 0, .refl s, rfl, .inl rfl⟩
  | some b =>
    dsimp only
    have posted : s.Moves LaneBody.LineKeeps (if b.intake.declares then s.post (some l) (.input false) else s) ∧
        (if b.intake.declares then s.post (some l) (.input false) else s).body? l = some b := by
      split
      · exact ⟨(State.Moves.refl s).post _ _, hb⟩
      · exact ⟨.refl s, hb⟩
    generalize (if b.intake.declares then s.post (some l) (.input false) else s) = v at posted ⊢
    obtain ⟨moved, hv⟩ := posted
    have most : b.intake.due + b.intake.owed ≤ b.intake.owed + 3 := by
      have := b.intake.due_le
      omega
    split
    · exact ⟨_, 0, moved.setBody hv (b.lineStep_ticked (le_refl _)).toLineKeeps, rfl, .inl rfl⟩
    · cases hf : b.intake.arrival with
      | none =>
        have settled := moved.setBody hv (b.lineStep_ticked (Nat.zero_le _)).toLineKeeps
        simp only [LaneBody.ticked, hf, Option.map_none] at settled
        refine ⟨_, _, settled, rfl, .inr ⟨fun c hc => Option.some.inj hc ▸ most, fun c hc => ?_⟩⟩
        rw [State.body?_setBody_self] at hc
        cases hc
        rfl
      | some f =>
        dsimp only
        split
        · have owing := moved.setBody hv
            (b.lineKeeps_ticked (owed := min 3 (b.intake.owed + b.intake.due)) fun _ => Nat.min_le_left _ _)
          simp only [LaneBody.ticked, hf, Option.map_some] at owing
          exact ⟨_, 0, owing, rfl, .inl rfl⟩
        · have gone := moved.trans (State.moves_abandon (f := f.seeTick) hv (b.lineStep_ticked (Nat.zero_le _))
            (by rw [LaneBody.ticked, LaneBody.withFrames, hf]; rfl)).toLineKeeps
          refine ⟨_, _, ?_, rfl, .inr ⟨fun c hc => Option.some.inj hc ▸ most, fun c hc => ?_⟩⟩
          · simp only [LaneBody.ticked, hf, Option.map_some] at gone
            exact gone
          · rw [State.body?_abandon_self] at hc
            cases hc
            rfl

end

end Sys2Proof.Machine

namespace Sys2Proof.Machine

section
variable {P : State → Prop} {s t : State} {l : Lane} {b c : LaneBody}

/-! ### Frames that take a seq, for any property -/

/-- No frame is arriving on a lane. -/
def State.Waits (s : State) (l : Lane) : Prop := ∀ b, s.body? l = some b → b.intake.arrival = none

theorem State.body?_freeing {s : State} {l k : Lane} {c : LaneBody} {freed : List PageNo} :
    ((s.setBody l (some c)).freePages l freed).body? k = if k = l then some c else s.body? k := by
  rw [State.body?_freePages]
  split
  · next h => subst h; exact State.body?_setBody_self _ _ _
  · next h => exact State.body?_setBody_ne _ _ h

/-- The changes of a lane start no frame. -/
theorem State.Moves.waits (h : s.Moves LaneBody.Keeps t) (hs : s.Waits l) : t.Waits l := by
  refine h.keeps (P := fun u => u.Waits l) (fun u v m hu => ?_) hs
  cases m with
  | post | write => exact hu
  | count => exact fun b hb => hu b ((State.body?_count _ _ _ _ _).symm.trans hb)
  | read k e => exact fun b hb => hu b (by rwa [State.body?, State.readErr_lanes] at hb)
  | body k b c freed hb step =>
    intro d hd
    rw [State.body?_freeing] at hd
    split at hd
    · next same =>
      subst same
      cases hd
      exact step.waits (hu b hb)
    · exact hu d hd

/-- A property that the changes of a lane keep, and that is kept as a frame takes the next-seq of a lane on which no frame is
arriving and whose line has room. -/
structure KeptByTakes (P : State → Prop) : Prop where
  line : ∀ {s t : State}, s.Moves LaneBody.LineKeeps t → P s → P t
  begun : ∀ {s : State} {l : Lane} {b : LaneBody} {store : Store} (raster : Raster) {pages : List PageNo}, P s →
    s.body? l = some b → b.intake.arrival = none → (0 < b.maxH → b.h < b.lineLimit) →
    s.store.allocate l (pagesPerFrame b.fmt.vclass) = some (pages, store) →
    P (({ s with store := store } : State).setBody l (some (b.begun raster pages)))
  filled : ∀ {s : State} {l : Lane} {b : LaneBody}, P s → s.body? l = some b → b.intake.arrival = none →
    (0 < b.maxH → b.h < b.lineLimit) → P (s.setBody l (some b.filled))

theorem State.Moves.lineKeepsToKeeps (h : s.Moves LaneBody.LineKeeps t) : s.Moves LaneBody.Keeps t :=
  h.mono fun _ _ _ h => h.toKeeps

/-- The full-line check leaves room for a frame (R44). -/
theorem State.fullLineCheck_room (hb : (s.fullLineCheck l).body? l = some b) : 0 < b.maxH → b.h < b.lineLimit := by
  rw [State.body?_fullLineCheck, if_pos rfl] at hb
  obtain ⟨c, -, rfl⟩ := Option.map_eq_some_iff.mp hb
  exact c.checked_room

theorem State.fullLineCheck_waits (hs : s.Waits l) : (s.fullLineCheck l).Waits l :=
  (State.moves_fullLineCheck s l).toLineKeeps.lineKeepsToKeeps.waits hs

/-- A fill leaves the lane waiting. -/
theorem State.makeFill_waits (hs : s.Waits l) : (s.makeFill l).Waits l := by
  have checked := State.fullLineCheck_waits hs
  have fill := State.moves_makeFill s l
  cases hb : (s.fullLineCheck l).body? l with
  | none =>
    simp only [hb] at fill
    exact fill ▸ checked
  | some b =>
    simp only [hb] at fill
    refine fill.toLineKeeps.lineKeepsToKeeps.waits fun d hd => ?_
    rw [State.body?_setBody_self] at hd
    cases hd
    exact checked b hb

theorem KeptByTakes.makeFill (kept : KeptByTakes P) (hs : P s) (waits : s.Waits l) : P (s.makeFill l) := by
  have checked := kept.line (State.moves_fullLineCheck s l).toLineKeeps hs
  have fill := State.moves_makeFill s l
  cases hb : (s.fullLineCheck l).body? l with
  | none =>
    simp only [hb] at fill
    exact fill ▸ checked
  | some b =>
    simp only [hb] at fill
    exact kept.line fill.toLineKeeps
      (kept.filled checked hb (State.fullLineCheck_waits waits b hb) (State.fullLineCheck_room hb))

theorem KeptByTakes.makeFills (kept : KeptByTakes P) (hs : P s) (waits : s.Waits l) (n : Nat) : P (s.makeFills l n) := by
  induction n generalizing s with
  | zero => exact hs
  | succ n ih => exact ih (kept.makeFill hs waits) (State.makeFill_waits waits)

theorem KeptByTakes.intakeTick (kept : KeptByTakes P) (hs : P s) (l : Lane) : P (s.intakeTick l) := by
  obtain ⟨u, n, moved, eq, fills⟩ := State.intakeTick_fills s l
  rw [eq]
  have hu := kept.line moved hs
  rcases fills with rfl | ⟨-, waits⟩
  · exact hu
  · exact kept.makeFills hu waits n

/-- The lane that a frame starts on, after the truncation and the full-line check (R43, R46). -/
theorem State.arrivalStart_waits (s : State) (l : Lane) (d : Delivery) : ((s.truncateArrival l d).fullLineCheck l).Waits l :=
  State.fullLineCheck_waits fun _ hb => State.truncateArrival_arrival hb

theorem State.moves_beforeStart (s : State) (l : Lane) (d : Delivery) :
    s.Moves LaneBody.LineStep ((s.truncateArrival l d).fullLineCheck l) :=
  (State.moves_truncateArrival s l d).trans (State.moves_fullLineCheck _ l)

theorem KeptByTakes.arrivalStart (kept : KeptByTakes P) (hs : P s) {raster : Raster} {d : Delivery}
    (h : execArrivalStart l raster d s = .next t) : P t := by
  have checked := kept.line (State.moves_beforeStart s l d).toLineKeeps hs
  unfold execArrivalStart at h
  split at h
  · cases h
  · dsimp only at h
    split at h
    · cases h
      exact hs
    · next b hb =>
      split at h
      · cases h
      · next pages store allocated =>
        cases h
        exact kept.line (State.moves_beginFrame _ l b raster pages).toLineKeeps
          (kept.begun raster checked hb (State.arrivalStart_waits s l d b hb) (State.fullLineCheck_room hb) allocated)

end

/-! ### Properties that every message keeps -/

/-- What the unit's messages change is the Control Link Unit alone (R168, R173, R174, R176). -/
def unitMessages : List Handler :=
  [unitStatusMessage, restartMessage, takeControlMessage, setTakeoverMessage, setNoticesMessage]

/-- The messages that change the panel (R157 to R161). -/
def panelMessages : List Handler := [lockMessage, bindInMessage, bindOutMessage, driveMessage]

/-- The messages that change a lane (1.4, 10.6, 10.7). -/
def laneMessages : List Handler :=
  [configureMessage, laneMessage State.release, timingMessage, governorMessage, routesMessage, watchMessage, fillMessage,
    spliceMessage, laneMessage fun s l => s.enter l .message, exitMessage, laneMessage State.dump,
    laneMessage State.setMark, laneMessage State.cutToMark, coverMessage, linkMessage, laneMessage State.unlink,
    statusMessage]

/-- Every message's handler (10.2). -/
def messages : List Handler :=
  [unknownHandler, identifyMessage, storeStatusMessage, clearCountsMessage, injectMessage, panelStatusMessage] ++
    unitMessages ++ panelMessages ++ laneMessages

/-- A property of the state that each operation behind a message, and a panel sample, keeps. -/
structure KeptByMessages (P : State → Prop) : Prop where
  line : ∀ {s t : State}, s.Moves LaneBody.LineKeeps t → P s → P t
  clearCounters : ∀ {s : State} (l : Lane), P s → P (s.clearCounters l)
  timing : ∀ {s : State} (l : Lane) (target dump lead : Nat), P s → P (s.setTiming l target dump lead).1
  configure : ∀ {s : State} (l : Lane) (fmt : Format) (n : Nat) (force : Bool), P s → P (s.configure l fmt n force).1
  release : ∀ {s : State} (l : Lane), P s → P (s.release l).1
  linkLanes : ∀ {s : State} (f l : Lane), P s → P (s.linkLanes f l).1
  unlink : ∀ {s : State} (l : Lane), P s → P (s.unlink l).1
  enter : ∀ {s : State} (l : Lane) (cause : Cause), P s → P (s.enter l cause).1
  exitGentle : ∀ {s : State} (l : Lane) (cause : Cause), P s → P (s.exitGentle l cause).1
  exitNow : ∀ {s : State} (l : Lane), P s → P (s.exitNow l).1
  addSource : ∀ {s : State} {l : Lane} {src : CoverSource}, s.leaderOf? l = none → src ≠ .leader → P s →
    P (s.addSource l src)
  removeSource : ∀ {s : State} {l : Lane} {src : CoverSource}, s.leaderOf? l = none → src ≠ .leader → P s →
    P (s.removeSource l src)
  settle : ∀ {s : State} {l : Lane} {b : LaneBody}, s.body? l = some b → P s → P (s.settleAction l b).1
  clearCounts : ∀ {s : State} (p : Port) (body : List Byte), P s → P (clearCountsMessage s p body).1
  inject : ∀ {s : State} (p : Port) (body : List Byte), P s → P (injectMessage s p body).1
  unit : ∀ {s : State} {h : Handler} (p : Port) (body : List Byte), h ∈ unitMessages → P s → P (h s p body).1
  panel : ∀ {s : State} {h : Handler} (p : Port) (body : List Byte), h ∈ panelMessages → P s → P (h s p body).1
  sample : ∀ {s : State} (i : Fin 16) (closed : Bool), s.panel.lockout = false → P s → P (s.sampleLine i closed)

section
variable {P : State → Prop} {s t : State} {l : Lane} {b c : LaneBody}

theorem withLane_keeps {x : Byte} {k : Lane → State × Answer} (hs : P s) (h : ∀ l, P (k l).1) :
    P (withLane s x k).1 := by
  unfold withLane
  split
  · exact hs
  · exact h _

theorem laneMessage_keeps {k : State → Lane → State × Answer} (hs : P s) (h : ∀ l, P (k s l).1) (p : Port)
    (body : List Byte) : P (laneMessage k s p body).1 := by
  unfold laneMessage
  split
  · exact withLane_keeps hs h
  · exact hs

theorem KeptByMessages.setBody (kept : KeptByMessages P) (hs : P s) (hb : s.body? l = some b) (h : b.LineStep c []) :
    P (s.setBody l (some c)) := kept.line ((State.Moves.refl s).setBody hb h.toLineKeeps) hs

theorem GovSettings.within_clamp (g : GovSettings) : g.clamp.Within := by
  unfold GovSettings.Within GovSettings.clamp
  dsimp only
  refine ⟨by omega, by omega, by omega, ?_, by omega⟩
  split
  · exact .inl rfl
  · right
    omega

theorem State.leaderOf?_of_free (hb : s.body? l = some b) (free : b.link = none) : s.leaderOf? l = none := by
  simp [State.leaderOf?, hb, free]

theorem KeptByMessages.configureMessage (kept : KeptByMessages P) (hs : P s) (p : Port) (body : List Byte) :
    P (configureMessage s p body).1 := by
  unfold Machine.configureMessage
  split
  · refine withLane_keeps hs fun l => ?_
    split
    · exact kept.configure l _ _ _ hs
    · exact hs
  · exact hs

theorem KeptByMessages.timingMessage (kept : KeptByMessages P) (hs : P s) (p : Port) (body : List Byte) :
    P (timingMessage s p body).1 := by
  unfold Machine.timingMessage
  split
  · exact withLane_keeps hs fun l => kept.timing l _ _ _ hs
  · exact hs

theorem KeptByMessages.governorMessage (kept : KeptByMessages P) (hs : P s) (p : Port) (body : List Byte) :
    P (governorMessage s p body).1 := by
  unfold Machine.governorMessage
  split
  · exact withLane_keeps hs fun l => onConfigured_keeps hs fun b hb =>
      kept.setBody hs hb (b.lineStep_govSet (GovSettings.within_clamp _))
  · exact hs

theorem KeptByMessages.routesMessage (kept : KeptByMessages P) (hs : P s) (p : Port) (body : List Byte) :
    P (routesMessage s p body).1 := by
  unfold Machine.routesMessage
  split
  · refine withLane_keeps hs fun l => ?_
    split
    · refine onConfigured_keeps hs fun b hb => ?_
      split
      · exact hs
      · exact kept.setBody hs hb (b.lineStep_routes _ _)
    · exact hs
  · exact hs

theorem KeptByMessages.watchMessage (kept : KeptByMessages P) (hs : P s) (p : Port) (body : List Byte) :
    P (watchMessage s p body).1 := by
  unfold Machine.watchMessage
  split
  · refine withLane_keeps hs fun l => ?_
    split
    · refine onConfigured_keeps hs fun b hb => ?_
      split
      · exact hs
      · exact kept.setBody hs hb (b.lineStep_watch _)
    · exact hs
  · exact hs

theorem KeptByMessages.fillMessage (kept : KeptByMessages P) (hs : P s) (p : Port) (body : List Byte) :
    P (fillMessage s p body).1 := by
  unfold Machine.fillMessage
  split
  · refine withLane_keeps hs fun l => ?_
    split
    · exact hs
    · exact onConfigured_keeps hs fun b hb => kept.setBody hs hb (b.lineStep_fill (Nat.min_le_right _ _))
  · exact hs

theorem KeptByMessages.spliceMessage (kept : KeptByMessages P) (hs : P s) (p : Port) (body : List Byte) :
    P (spliceMessage s p body).1 := by
  unfold Machine.spliceMessage
  split
  · refine withLane_keeps hs fun l => ?_
    split
    · exact hs
    · exact onConfigured_keeps hs fun b hb => kept.setBody hs hb (b.lineStep_splice _)
  · exact hs

theorem KeptByMessages.exitMessage (kept : KeptByMessages P) (hs : P s) (p : Port) (body : List Byte) :
    P (exitMessage s p body).1 := by
  unfold Machine.exitMessage
  split
  · refine withLane_keeps hs fun l => ?_
    split
    · exact hs
    · exact kept.exitGentle l _ hs
    · exact kept.exitNow l hs
  · exact hs

theorem KeptByMessages.coverMessage (kept : KeptByMessages P) (hs : P s) (p : Port) (body : List Byte) :
    P (coverMessage s p body).1 := by
  unfold Machine.coverMessage
  split
  · refine withLane_keeps hs fun l => ?_
    split
    · exact hs
    · next on _ =>
      refine onIndependent_keeps hs fun b hb free => ?_
      have independent := State.leaderOf?_of_free hb free
      cases on
      · exact kept.removeSource independent (by decide) hs
      · exact kept.addSource independent (by decide) hs
  · exact hs

theorem KeptByMessages.linkMessage (kept : KeptByMessages P) (hs : P s) (p : Port) (body : List Byte) :
    P (linkMessage s p body).1 := by
  unfold Machine.linkMessage
  split
  · exact withLane_keeps hs fun f => withLane_keeps hs fun l => kept.linkLanes f l hs
  · exact hs

theorem KeptByMessages.statusMessage (kept : KeptByMessages P) (hs : P s) (p : Port) (body : List Byte) :
    P (statusMessage s p body).1 := by
  unfold Machine.statusMessage
  split
  · refine withLane_keeps hs fun l => ?_
    split
    · dsimp only
      split
      · exact kept.clearCounters l hs
      · exact hs
    · exact hs
  · exact hs

theorem storeStatusMessage_state (s : State) (p : Port) (body : List Byte) : (storeStatusMessage s p body).1 = s := by
  unfold storeStatusMessage
  split
  · split
    · rfl
    · split <;> rfl
  · rfl

theorem panelStatusMessage_state (s : State) (p : Port) (body : List Byte) : (panelStatusMessage s p body).1 = s := by
  unfold panelStatusMessage
  split
  · split
    · rfl
    · split <;> rfl
  · rfl

/-- Such a property is kept by every message. -/
theorem KeptByMessages.message (kept : KeptByMessages P) {h : Handler} (hh : h ∈ messages) (hs : P s) (p : Port)
    (body : List Byte) : P (h s p body).1 := by
  simp only [messages, List.mem_append, or_assoc] at hh
  rcases hh with report | unit | panel | lane
  · simp only [List.mem_cons, List.not_mem_nil, or_false] at report
    rcases report with rfl | rfl | rfl | rfl | rfl | rfl
    · exact hs
    · exact hs
    · exact (storeStatusMessage_state s p body).symm ▸ hs
    · exact kept.clearCounts p body hs
    · exact kept.inject p body hs
    · exact (panelStatusMessage_state s p body).symm ▸ hs
  · exact kept.unit p body unit hs
  · exact kept.panel p body panel hs
  · have line {t : State} (h : s.Moves LaneBody.LineStep t) : P t := kept.line h.toLineKeeps hs
    simp only [laneMessages, List.mem_cons, List.not_mem_nil, or_false] at lane
    rcases lane with rfl | rfl | rfl | rfl | rfl | rfl | rfl | rfl | rfl | rfl | rfl | rfl | rfl | rfl | rfl | rfl | rfl
    · exact kept.configureMessage hs p body
    · exact laneMessage_keeps hs (fun l => kept.release l hs) p body
    · exact kept.timingMessage hs p body
    · exact kept.governorMessage hs p body
    · exact kept.routesMessage hs p body
    · exact kept.watchMessage hs p body
    · exact kept.fillMessage hs p body
    · exact kept.spliceMessage hs p body
    · exact laneMessage_keeps hs (fun l => kept.enter l .message hs) p body
    · exact kept.exitMessage hs p body
    · exact laneMessage_keeps hs (fun l => line (State.moves_dump s l)) p body
    · exact laneMessage_keeps hs (fun l => line (State.moves_setMark s l)) p body
    · exact laneMessage_keeps hs (fun l => line (State.moves_cutToMark s l)) p body
    · exact kept.coverMessage hs p body
    · exact kept.linkMessage hs p body
    · exact laneMessage_keeps hs (fun l => kept.unlink l hs) p body
    · exact kept.statusMessage hs p body

end

end Sys2Proof.Machine

namespace Sys2Proof.Machine

section
variable {P : State → Prop} {s t : State} {l : Lane} {b c : LaneBody}

/-! ### Packets -/

/-- The frame arriving on a lane, if the lane is configured, has the seq q. -/
def State.Receives (s : State) (l : Lane) (q : Seq) : Prop :=
  ∀ b, s.body? l = some b → b.intake.arrival.map (·.seq) = some q

theorem State.receives_modBody {q : Seq} {f : LaneBody → LaneBody} (hs : s.Receives l q) (k : Lane)
    (same : ∀ b, (f b).intake.arrival.map (·.seq) = b.intake.arrival.map (·.seq)) : (s.modBody k f).Receives l q := by
  intro c hc
  by_cases h : l = k
  · subst h
    rw [State.body?_modBody_self] at hc
    obtain ⟨b, hb, rfl⟩ := Option.map_eq_some_iff.mp hc
    rw [same, hs b hb]
  · exact hs c (by rwa [State.body?_modBody_ne _ _ h] at hc)

theorem LaneBody.cover_arrival_seq (b : LaneBody) (src : CoverSource) :
    (b.cover src).intake.arrival.map (·.seq) = b.intake.arrival.map (·.seq) := by
  unfold LaneBody.cover
  dsimp only
  split
  · unfold LaneBody.onset
    cases b.intake.arrival <;> rfl
  · rfl

theorem State.receives_addSource {q : Seq} (hs : s.Receives l q) (k : Lane) (src : CoverSource) :
    (s.addSource k src).Receives l q := by
  have own := State.receives_modBody hs k (fun b => b.cover_arrival_seq src)
  unfold State.addSource
  dsimp only
  split
  · exact foldl_invariant _ (fun u : State => u.Receives l q)
      (fun u f hu => State.receives_modBody hu f fun b => b.cover_arrival_seq .leader) _ _ own
  · exact own

theorem State.receives_removeSource {q : Seq} (hs : s.Receives l q) (k : Lane) (src : CoverSource) :
    (s.removeSource k src).Receives l q := by
  have own := State.receives_modBody hs k (f := (·.uncover src)) fun _ => rfl
  unfold State.removeSource
  dsimp only
  split
  · refine foldl_invariant _ (fun u : State => u.Receives l q) (fun u f hu => ?_) _ _ own
    exact State.receives_modBody hu f fun _ => rfl
  · exact own

/-- A hit keeps what the operations behind its action keep, and the frame that is arriving (R58). -/
theorem KeptByMessages.watchHit (kept : KeptByMessages P) (hs : P s) {q : Seq} (hq : s.Receives l q) (i : Nat)
    (action : WatchAction) : P (s.watchHit l q i action) ∧ (s.watchHit l q i action).Receives l q := by
  have posted : P (s.post (some l) (.watchHit i q)) := kept.line ((State.Moves.refl s).post _ _) hs
  unfold State.watchHit
  dsimp only
  split
  · exact ⟨posted, hq⟩
  · next free =>
    rw [Option.not_isSome_iff_eq_none] at free
    cases action with
    | notify => exact ⟨posted, hq⟩
    | coverOn =>
      exact ⟨kept.addSource (s := s.post (some l) (.watchHit i q)) free (by decide) posted,
        State.receives_addSource (s := s.post (some l) (.watchHit i q)) hq l _⟩
    | coverOff =>
      exact ⟨kept.removeSource (s := s.post (some l) (.watchHit i q)) free (by decide) posted,
        State.receives_removeSource (s := s.post (some l) (.watchHit i q)) hq l _⟩
    | mark =>
      refine ⟨kept.line ((State.Moves.refl _).modBody l fun b hb => ?_) posted,
        State.receives_modBody (s := s.post (some l) (.watchHit i q)) hq l fun _ => rfl⟩
      exact (b.lineStep_mark (m := { seq := q, standing := .arriving }) (hq b hb)).toLineKeeps

theorem KeptByMessages.watchPacket (kept : KeptByMessages P) (hs : P s) {q : Seq} (hq : s.Receives l q)
    (ty : PacketType) (payload : List Byte) (i : Nat) (es : List WatchEntry) :
    P (s.watchPacket l q ty payload i es) := by
  induction es generalizing s i with
  | nil => exact hs
  | cons e es ih =>
    unfold State.watchPacket
    split
    · obtain ⟨hs', hq'⟩ := kept.watchHit hs hq i e.action
      exact ih hs' hq' _
    · exact ih hs hq _

theorem State.body?_routePacket_arrival (s : State) (l : Lane) (b : LaneBody) (f : InArrival) (ty : PacketType)
    (payload : List Byte) : (s.routePacket l b f ty payload).Receives l f.seq := by
  intro c hc
  unfold State.routePacket at hc
  dsimp only at hc
  split at hc <;>
    simp only [State.body?_dropPackets, State.body?_setBody_self, Option.some.injEq] at hc <;> subst hc <;> rfl

theorem KeptByMessages.packetArrival (kept : KeptByMessages P) (hs : P s) {ty : PacketType} {payload : List Byte}
    (h : execPacketArrival l ty payload s = .next t) : P t := by
  unfold execPacketArrival at h
  split at h
  · cases h
  · split at h
    · cases h
      exact hs
    · next b hb =>
      split at h
      · cases h
        exact hs
      · next f hf =>
        split at h
        · cases h
          exact kept.line ((State.Moves.refl s).count l _ _) hs
        · next room =>
          cases h
          exact kept.watchPacket (kept.line (State.moves_routePacket hb hf room ty payload).toLineKeeps hs)
            (State.body?_routePacket_arrival s l b f ty payload) _ _ _ _

/-! ### Ticks -/

theorem KeptByMessages.playTick (kept : KeptByMessages P) (hs : P s) (l : Lane) : P (s.playTick l) := by
  unfold State.playTick State.onBody
  split
  · exact hs
  · next b hb => exact kept.line (State.moves_emission _ l _).toLineKeeps (kept.settle hb hs)

theorem KeptByMessages.laneTick (kept : KeptByMessages P) (takes : KeptByTakes P) (hs : P s) (l : Lane)
    (intakeFirst : Bool) : P (s.laneTick l intakeFirst) := by
  cases intakeFirst
  · exact takes.intakeTick (kept.playTick hs l) l
  · exact kept.playTick (takes.intakeTick hs l) l

theorem KeptByMessages.tickIf (kept : KeptByMessages P) (takes : KeptByTakes P) (hs : P s) (l : Lane)
    (intakeFirst x : Bool) : P (if x then s.laneTick l intakeFirst else s) := by
  cases x
  · exact hs
  · exact kept.laneTick takes hs l intakeFirst

end

/-! ### Commands -/

/-- The commands at which a lane may assign seqs: the start of a frame and the tick (R45). -/
def assignsSeq : Instr → Bool
  | .arrivalStart _ _ _ | .laneTick _ _ | .inputLossDeclared _ _ | .governorForce _ _ => true
  | _ => false

/-- The commands of the ports, of the Tick Generator and of the resets, which reach no lane by an operation. -/
def isOuter : Instr → Bool
  | .powerUp _ | .resetN _ | .restartEffect | .receiveByte _ _ _ | .gapExpiry _ | .referencePulse _ | .referenceLost
  | .transmitReply _ | .transmitNotice _ => true
  | _ => false

section
variable {P : State → Prop} {s t : State}

/-- What an execution keeps: what its message keeps. -/
def KeptByExecutor (P : State → Prop) : Prop :=
  ∀ (s : State) (isRow : Request → Bool) (lengthOk : Nat → Bool) (permitted : State → Port → List Byte → Bool)
    (h : Handler), h ∈ messages → P s → P (s.execute isRow lengthOk permitted h)

theorem KeptByMessages.arrivalCompletion (kept : KeptByMessages P) (hs : P s) {l : Lane} {d : Delivery}
    (h : execArrivalCompletion l d s = .next t) : P t := by
  unfold execArrivalCompletion at h
  split at h
  · cases h
  · split at h
    · cases h
      exact hs
    · next b hb =>
      split at h
      · cases h
        exact hs
      · next f hf =>
        cases h
        exact kept.line (State.moves_completeFrame hb hf d false).toLineKeeps hs

theorem KeptByMessages.pageWriteComplete (kept : KeptByMessages P) (hs : P s) {l : Lane}
    (h : execPageWriteComplete l s = .next t) : P t := by
  cases h
  split
  · exact hs
  · next p hp =>
    refine kept.line (((State.Moves.refl s).write p).modBody l fun b hb => ?_) hs
    refine (b.lineStep_frames (rs := b.dl.records) rfl ?_).toLineKeeps
    cases b.intake.arrival <;> rfl

theorem KeptByMessages.panelSample (kept : KeptByMessages P) (hs : P s) {i : Fin 16} {closed : Bool}
    (h : execPanelSample i closed s = .next t) : P t := by
  cases h
  split
  · exact hs
  · next unlocked => exact kept.sample i closed (by simpa using unlocked) hs

theorem KeptByMessages.panelEdge (kept : KeptByMessages P) (hs : P s) {i : Fin 16} {closed : Bool}
    (h : execPanelEdge i closed s = .next t) : P t := by
  cases h
  split
  · next due =>
    obtain ⟨unlocked, -⟩ := Bool.and_eq_true_iff.mp due
    exact kept.sample i closed (by simpa using unlocked) hs
  · exact hs

/-- Every command keeps such a property when the executor, the ports' commands and the commands that assign seqs do. -/
theorem KeptByMessages.exec (kept : KeptByMessages P) (executor : KeptByExecutor P) {c : Instr}
    (outer : isOuter c = true → ∀ t, Machine.exec c s = .next t → P t)
    (takes : assignsSeq c = true → ∀ t, Machine.exec c s = .next t → P t) (hs : P s) (h : Machine.exec c s = .next t) : P t := by
  cases c with
  | powerUp | resetN | restartEffect | receiveByte | gapExpiry | referencePulse | referenceLost | transmitReply
  | transmitNotice => exact outer rfl t h
  | arrivalStart | laneTick | inputLossDeclared | governorForce => exact takes rfl t h
  | arrivalCompletion l d => exact kept.arrivalCompletion hs h
  | packetArrival l ty payload => exact kept.packetArrival hs h
  | pageWriteComplete l => exact kept.pageWriteComplete hs h
  | panelSample i closed => exact kept.panelSample hs h
  | panelEdge i closed => exact kept.panelEdge hs h
  | unknownMessage | identify | unitStatus | restart | takeControl | setTakeover | setNotices | storeStatus
  | storeClearCounts | storeInject | panelLockOn | panelLockOff | panelBindIn | panelBindOut | panelDrive | panelStatus
  | laneConfigure | laneRelease | laneTiming | laneGovernor | laneRoutes | laneWatch | laneCoverFill | laneSplice
  | laneEnter | laneExitGentle | laneExitNow | laneDump | laneMark | laneCutToMark | laneCoverOn | laneCoverOff
  | laneLink | laneUnlink | laneStatus =>
    cases h
    exact executor s _ _ _ _ (by simp [messages, unitMessages, panelMessages, laneMessages]) hs

/-- The same where the commands that assign seqs are known to keep it as their operations do. -/
theorem KeptByMessages.exec_of_takes (kept : KeptByMessages P) (takes : KeptByTakes P) (executor : KeptByExecutor P)
    {c : Instr} (outer : isOuter c = true → ∀ t, Machine.exec c s = .next t → P t) (hs : P s) (h : Machine.exec c s = .next t) : P t := by
  refine kept.exec executor outer (fun assigns u hu => ?_) hs h
  cases c with
  | arrivalStart => exact takes.arrivalStart hs hu
  | laneTick l first =>
    cases hu
    exact kept.laneTick takes hs l first
  | inputLossDeclared l first | governorForce l first =>
    cases hu
    exact kept.tickIf takes hs l first _
  | _ => cases assigns

end

end Sys2Proof.Machine

namespace Sys2Proof.Machine

section
variable {P : State → Prop} {s t : State} {l : Lane}

/-! ### The panel's messages and samples -/

/-- A property that the panel's actions keep, and that does not look at the panel (R16). -/
structure KeptByActions (P : State → Prop) : Prop where
  line : ∀ {s t : State}, s.Moves LaneBody.LineKeeps t → P s → P t
  enter : ∀ {s : State} (l : Lane) (cause : Cause), P s → P (s.enter l cause).1
  exitGentle : ∀ {s : State} (l : Lane) (cause : Cause), P s → P (s.exitGentle l cause).1
  addSource : ∀ {s : State} {l : Lane} {src : CoverSource}, s.leaderOf? l = none → src ≠ .leader → P s →
    P (s.addSource l src)
  removeSource : ∀ {s : State} {l : Lane} {src : CoverSource}, s.leaderOf? l = none → src ≠ .leader → P s →
    P (s.removeSource l src)
  panel : ∀ {s : State} (x : Panel), P s → P { s with panel := x }

theorem State.onReached_keeps {f : State → Lane → State} (hs : P s) (h : s.leaderOf? l = none → P (f s l)) :
    P (s.onReached l f) := by
  unfold State.onReached
  split
  · exact hs
  · next b hb =>
    split
    · exact hs
    · next free => exact h (State.leaderOf?_of_free hb (by simpa using free))

theorem KeptByActions.panelAction (kept : KeptByActions P) (hs : P s) (func : InFunc) (l : Lane) :
    P (s.panelAction func l) := by
  refine State.onReached_keeps hs fun free => ?_
  cases func with
  | unbound => exact hs
  | dump => exact kept.line (State.moves_dump s l).toLineKeeps hs
  | cover => exact kept.addSource free (by decide) hs
  | mark => exact kept.line (State.moves_setMark s l).toLineKeeps hs
  | cutToMark => exact kept.line (State.moves_cutToMark s l).toLineKeeps hs
  | enter => exact kept.enter l _ hs
  | exit => exact kept.exitGentle l _ hs

theorem KeptByActions.fireGroup (kept : KeptByActions P) (hs : P s) (g : GroupId) (i : Fin 16) : P (s.fireGroup g i) :=
  kept.line ((State.Moves.refl _).post _ _)
    (foldl_invariant _ P (fun _ l hu => kept.panelAction hu g.func l) _ _ (kept.panel _ hs))

theorem KeptByActions.rearmGroup (kept : KeptByActions P) (hs : P s) (g : GroupId) : P (s.rearmGroup g) := by
  have armed : P (s.disarm g) := kept.panel _ hs
  unfold State.rearmGroup
  dsimp only
  split
  · exact foldl_invariant _ P (fun u l hu => State.onReached_keeps hu fun free => kept.removeSource free (by decide) hu)
      _ _ armed
  · exact armed

theorem KeptByActions.takeEdge (kept : KeptByActions P) (hs : P s) (i : Fin 16) (active : Bool) :
    P (s.takeEdge i active) := by
  unfold State.takeEdge
  split
  · exact hs
  · split_ifs
    · exact hs
    · exact kept.fireGroup hs _ i
    · exact kept.rearmGroup hs _
    · exact hs

theorem KeptByActions.sampleLine (kept : KeptByActions P) (hs : P s) (i : Fin 16) (closed : Bool) :
    P (s.sampleLine i closed) := by
  have input (x : InLine) : P (s.setInput i x) := kept.panel _ hs
  unfold State.sampleLine
  dsimp only
  split_ifs
  · exact input _
  · exact kept.takeEdge (input _) i _
  · exact input _

theorem KeptByActions.leaveGroup (kept : KeptByActions P) (hs : P s) (i : Fin 16) : P (s.leaveGroup i) := by
  unfold State.leaveGroup
  split
  · exact hs
  · dsimp only
    have free : P (s.setInput i { s.panel.inputs.get i with func := .unbound }) := kept.panel _ hs
    split_ifs
    · exact kept.rearmGroup free _
    · exact free

theorem KeptByActions.lockOn (kept : KeptByActions P) (hs : P s) : P s.lockOn := by
  unfold State.lockOn
  split
  · exact hs
  · exact kept.panel _ (foldl_invariant _ P (fun _ g hu => kept.rearmGroup hu g) _ _ (kept.panel _ hs))

theorem KeptByActions.bindIn (kept : KeptByActions P) (hs : P s) (i : Fin 16) (func : InFunc) (mask : BitVec 4)
    (inverted : Bool) (n : Nat) : P (s.bindIn i func mask inverted n).1 := kept.panel _ (kept.leaveGroup hs i)

theorem KeptByActions.panelMessage (kept : KeptByActions P) {h : Handler} (hh : h ∈ panelMessages) (hs : P s) (p : Port)
    (body : List Byte) : P (h s p body).1 := by
  simp only [panelMessages, List.mem_cons, List.not_mem_nil, or_false] at hh
  rcases hh with rfl | rfl | rfl | rfl
  · unfold lockMessage
    split
    · split
      · exact hs
      · next on _ =>
        cases on
        · exact kept.panel _ hs
        · exact kept.lockOn hs
    · exact hs
  · unfold bindInMessage
    split
    · split
      · exact kept.bindIn hs _ _ _ _ _
      · exact hs
    · exact hs
  · unfold bindOutMessage
    split
    · split
      · split
        · exact hs
        · exact kept.panel _ hs
      · exact hs
    · exact hs
  · unfold driveMessage
    split
    · split
      · exact kept.panel _ hs
      · exact hs
    · exact hs

/-! ### Messages whose effect is one part of the state -/

/-- The unit's messages change the Control Link Unit alone. -/
theorem unitMessage_link {h : Handler} (hh : h ∈ unitMessages) (s : State) (p : Port) (body : List Byte) :
    ∃ x, (h s p body).1 = { s with link := x } := by
  simp only [unitMessages, List.mem_cons, List.not_mem_nil, or_false] at hh
  rcases hh with rfl | rfl | rfl | rfl | rfl
  · unfold unitStatusMessage
    split
    · split
      · exact ⟨s.link, rfl⟩
      · next clear _ => cases clear <;> exact ⟨_, rfl⟩
    · exact ⟨s.link, rfl⟩
  · exact ⟨_, rfl⟩
  · unfold takeControlMessage
    split_ifs <;> exact ⟨_, rfl⟩
  · unfold setTakeoverMessage
    split
    · split <;> exact ⟨_, rfl⟩
    · exact ⟨s.link, rfl⟩
  · unfold setNoticesMessage
    split
    · split <;> exact ⟨_, rfl⟩
    · exact ⟨s.link, rfl⟩

/-- STORE_INJECT changes at most one bank's arm (R39). -/
theorem injectMessage_state (s : State) (p : Port) (body : List Byte) : (injectMessage s p body).1 = s ∨
    ∃ k arm, (injectMessage s p body).1 =
      { s with store := s.store.setBank k { s.store.banks.get k with arm := arm } } := by
  unfold injectMessage
  split
  · split
    · split
      · exact .inl rfl
      · exact .inr ⟨_, _, rfl⟩
    · exact .inl rfl
  · exact .inl rfl

/-! ### Properties of the lanes and the store -/

/-- A budget of n pages covers six frames of a format and leaves the other lanes theirs (R3). -/
def State.Grants (s : State) (l : Lane) (fmt : Format) (n : Nat) : Prop :=
  6 * pagesPerFrame fmt.vclass ≤ n ∧ n + s.store.reservedElsewhere l ≤ Config.poolPages

/-- A property that looks at the lanes and the store alone, and that every change of a lane keeps. -/
structure KeptByChanges (P : State → Prop) : Prop where
  moves : ∀ {s t : State}, s.Moves LaneBody.Keeps t → P s → P t
  link : ∀ {s : State} (x : LinkUnit), P s → P { s with link := x }
  panel : ∀ {s : State} (x : Panel), P s → P { s with panel := x }
  tick : ∀ {s : State} (x : TickGen), P s → P { s with tick := x }
  clearCounters : ∀ {s : State} (l : Lane), P s → P (s.clearCounters l)
  fresh : ∀ {s : State} {l : Lane} (fmt : Format) {n : Nat}, s.body? l = none → s.Grants l fmt n → P s →
    P (({ s with lanes := s.lanes.set l { counters := .zero, body := some (.fresh fmt (maxRecords n fmt.vclass)) } } :
      State).setBudget l n)
  reconfigured : ∀ {s : State} {l : Lane} {b : LaneBody} (fmt : Format) {n : Nat}, s.body? l = some b →
    s.Grants l fmt n → P s →
    P (((s.setBody l (some (b.reconfigured fmt (maxRecords n fmt.vclass)))).freePages l b.pages).setBudget l n)
  flush : ∀ {s : State} {l : Lane} {b : LaneBody}, s.body? l = some b → P s →
    P (((s.setBody l none).freePages l b.pages).setBudget l 0)
  clearCounts : ∀ {s : State}, P s → P { s with store := { s.store with banks := s.store.banks.map Bank.clearCounts } }
  arm : ∀ {s : State} (k : Fin 8) (arm : Option WordErr), P s →
    P { s with store := s.store.setBank k { s.store.banks.get k with arm := arm } }
  poweredUp : ∀ {s : State} (ratesel : Bool), P s → P (s.poweredUp ratesel)
  restarted : ∀ {s : State} (x : LinkUnit), P s → P { State.reset with
    pending := s.pending
    store := { Store.reset with banks := s.store.banks.map Bank.restarted, errs := s.store.errs }
    link := x }

theorem KeptByChanges.step (kept : KeptByChanges P) (h : s.Moves LaneBody.Step t) (hs : P s) : P t :=
  kept.moves h.toKeeps hs

theorem KeptByChanges.actions (kept : KeptByChanges P) : KeptByActions P where
  line h := kept.moves h.lineKeepsToKeeps
  enter l cause := kept.step (State.moves_enter _ l cause)
  exitGentle l cause := kept.step (State.moves_exitGentle _ l cause)
  addSource _ _ := kept.step (State.moves_addSource _ _ _)
  removeSource _ _ := kept.step (State.moves_removeSource _ _ _)
  panel := kept.panel

/-! ### Timing settings -/

theorem targetSetting_within {r : Fin 8} {m ms : Nat} (large : 4 ≤ m) (h : ms ≤ 60000) :
    (targetSetting r m ms).1.ms ≤ 60000 ∧ 2 ≤ (targetSetting r m ms).1.frames ∧
      (targetSetting r m ms).1.frames ≤ m - 2 := by
  simp only [targetSetting]
  omega

theorem dumpSetting_within {r : Fin 8} {m : Nat} (ms : Nat) (large : 4 ≤ m) : (dumpSetting r m ms).1.ms = 0 ∨
    (1 ≤ (dumpSetting r m ms).1.frames ∧ (dumpSetting r m ms).1.frames ≤ m) := by
  unfold dumpSetting
  split
  · exact .inl rfl
  · right
    dsimp only
    omega

theorem leadSetting_within (r : Fin 8) (m ms : Nat) : (leadSetting r m ms).1.frames ≤ m := Nat.min_le_right _ _

theorem State.moves_setTiming (s : State) (l : Lane) (target dump lead : Nat) :
    s.Moves LaneBody.Step (s.setTiming l target dump lead).1 := by
  refine onIndependent_keeps (.refl s) fun b hb _ => (State.Moves.refl s).setBody hb (b.step_timing fun large within => ?_)
  refine ⟨fun x hx => ?_, dumpSetting_within _ large, leadSetting_within _ _ _⟩
  dsimp only at hx
  split at hx
  · exact within.1 x hx
  · cases hx
    exact targetSetting_within large (Nat.min_le_right _ _)

/-! ### Release -/

theorem State.makeIndependent_of_none {s : State} {f : Lane} (h : s.body? f = none) : s.makeIndependent f = s := by
  simp [State.makeIndependent, h]

theorem State.makeIndependent_of_some {s : State} {f : Lane} {b : LaneBody} (hb : s.body? f = some b) :
    s.makeIndependent f = (s.setBody f (some (independent b))).postAll (unlinkedPosts f b) := by
  unfold State.makeIndependent State.putMode
  rw [hb]
  dsimp only
  have orphan : ((b.mode == .build || b.mode == .onTarget || b.mode == .trim) && b.timing.target.isNone) =
      decide ((b.mode = .build ∨ b.mode = .onTarget ∨ b.mode = .trim) ∧ b.timing.target = none) := by
    rw [Bool.eq_iff_iff]
    simp [or_assoc]
  rw [orphan]
  by_cases h : (b.mode = .build ∨ b.mode = .onTarget ∨ b.mode = .trim) ∧ b.timing.target = none
  · have moved : b.mode ≠ .drain := by
      rintro eq
      simp [eq] at h
    rw [State.modBody_setBody]
    simp only [unlinkedPosts, independent, decide_true, if_pos h, ne_eq, if_pos moved]
    simp [h, State.postAll, LaneBody.uncover, CoverSet.put]
  · have decided : (b.mode == .drain) = decide (b.mode = .drain) := rfl
    simp [h, unlinkedPosts, independent, State.postAll, LaneBody.uncover, CoverSet.put, decided]

/-- A follower made independent is another lane's follower no more; the other lanes stay (R26). -/
theorem State.body?_makeIndependent (s : State) (f k : Lane) :
    (s.makeIndependent f).body? k = if k = f then (s.body? f).map independent else s.body? k := by
  cases hf : s.body? f with
  | none =>
    rw [State.makeIndependent_of_none hf]
    split
    · next same => rw [same, hf]; rfl
    · rfl
  | some b =>
    rw [State.makeIndependent_of_some hf, State.body?, State.postAll_lanes]
    split
    · next same => subst same; exact State.body?_setBody_self _ _ _
    · next other => exact State.body?_setBody_ne _ _ other

/-- Making a lane independent keeps every lane's pages. -/
theorem State.body?_makeIndependent_pages {b : LaneBody} (s : State) (f : Lane) (hb : s.body? l = some b) :
    ∃ c, (s.makeIndependent f).body? l = some c ∧ c.pages = b.pages := by
  rw [State.body?_makeIndependent]
  split
  · next same =>
    subst same
    exact ⟨independent b, by rw [hb]; rfl, rfl⟩
  · exact ⟨b, hb, rfl⟩

theorem State.body?_makeIndependents_pages {b : LaneBody} (s : State) (fs : List Lane) (hb : s.body? l = some b) :
    ∃ c, (fs.foldl State.makeIndependent s).body? l = some c ∧ c.pages = b.pages :=
  foldl_invariant State.makeIndependent (fun u => ∃ c, u.body? l = some c ∧ c.pages = b.pages)
    (fun u f ⟨c, hc, same⟩ => by
      obtain ⟨d, hd, same'⟩ := State.body?_makeIndependent_pages u f hc
      exact ⟨d, hd, same'.trans same⟩) fs s ⟨b, hb, rfl⟩

theorem KeptByChanges.release (kept : KeptByChanges P) (hs : P s) (l : Lane) : P (s.release l).1 := by
  unfold State.release
  split
  · exact hs
  · next b hb =>
    obtain ⟨c, hc, same⟩ := State.body?_makeIndependents_pages s (s.followersOf l) hb
    have parted := kept.step ((State.Moves.refl s).foldl (s.followersOf l) State.moves_makeIndependent) hs
    have flushed := kept.flush hc parted
    rw [same] at flushed
    exact kept.moves ((State.Moves.refl _).post _ _) flushed

/-! ### Every command -/

theorem State.configure_available {fmt : Format} {requested : Nat}
    (h : ¬(!decide (max requested (6 * pagesPerFrame fmt.vclass) + s.store.reservedElsewhere l ≤ Config.poolPages)) = true) :
    s.Grants l fmt (max requested (6 * pagesPerFrame fmt.vclass)) :=
  ⟨Nat.le_max_right _ _, by simpa using h⟩

theorem KeptByChanges.configure (kept : KeptByChanges P) (hs : P s) (l : Lane) (fmt : Format) (requested : Nat)
    (force : Bool) : P (s.configure l fmt requested force).1 := by
  have posted (u : State) (cause : Cause) (hu : P u) : P (u.post (some l) (.laneState (some .pass) cause)) :=
    kept.moves ((State.Moves.refl u).post _ _) hu
  unfold State.configure
  dsimp only
  split
  · next off =>
    split
    · exact hs
    · next available => exact posted _ _ (kept.fresh fmt off (State.configure_available available) hs)
  · next b hb =>
    split_ifs with linked active available
    · exact hs
    · exact hs
    · exact hs
    · exact posted _ _ (kept.reconfigured fmt hb (State.configure_available available) hs)

theorem KeptByChanges.messages (kept : KeptByChanges P) : KeptByMessages P where
  line h := kept.moves h.lineKeepsToKeeps
  clearCounters := kept.clearCounters
  timing l target dump lead hs := kept.step (State.moves_setTiming _ l target dump lead) hs
  configure l fmt n force hs := kept.configure hs l fmt n force
  release l hs := kept.release hs l
  linkLanes f l := kept.step (State.moves_linkLanes _ f l)
  unlink f := kept.step (State.moves_unlink _ f)
  enter l cause := kept.step (State.moves_enter _ l cause)
  exitGentle l cause := kept.step (State.moves_exitGentle _ l cause)
  exitNow l := kept.step (State.moves_exitNow _ l)
  addSource _ _ := kept.step (State.moves_addSource _ _ _)
  removeSource _ _ := kept.step (State.moves_removeSource _ _ _)
  settle hb := kept.step (State.moves_settleAction hb)
  clearCounts _ _ := kept.clearCounts
  inject {s} p body hs := by
    obtain same | ⟨k, arm, eq⟩ := injectMessage_state s p body
    · rwa [same]
    · exact eq ▸ kept.arm k arm hs
  unit {s h} p body hh hs := by
    obtain ⟨x, eq⟩ := unitMessage_link hh s p body
    exact eq ▸ kept.link x hs
  panel p body hh hs := kept.actions.panelMessage hh hs p body
  sample i closed _ hs := kept.actions.sampleLine hs i closed

/-- The executor's own work is on the Control Link Unit alone (R169, R170). -/
theorem KeptByMessages.executor (kept : KeptByMessages P) (link : ∀ {s : State} (x : LinkUnit), P s → P { s with link := x }) :
    KeptByExecutor P := by
  intro s isRow lengthOk permitted h hh hs
  unfold State.execute
  split
  · exact hs
  · next p r _ =>
    have taken : P (s.takeRequest p) := link (s := s) _ hs
    dsimp only
    split_ifs
    · exact hs
    · exact link _ taken
    · exact link _ taken
    · exact link _ (kept.message hh taken p r.body)

/-- What a port's commands, the reference pulses and the resets keep: a property of the lanes, the store and the panel that
a reset meets. -/
structure KeptByOuter (P : State → Prop) : Prop where
  post : ∀ {s : State} (x : Option Lane) (d : Detail), P s → P (s.post x d)
  link : ∀ {s : State} (x : LinkUnit), P s → P { s with link := x }
  tick : ∀ {s : State} (x : TickGen), P s → P { s with tick := x }
  poweredUp : ∀ {s : State} (ratesel : Bool), P s → P (s.poweredUp ratesel)
  restarted : ∀ {s : State} (x : LinkUnit), P s → P { State.reset with
    pending := s.pending
    store := { Store.reset with banks := s.store.banks.map Bank.restarted, errs := s.store.errs }
    link := x }

theorem KeptByOuter.exec (kept : KeptByOuter P) (hs : P s) {c : Instr} (outer : isOuter c = true)
    (h : Machine.exec c s = .next t) : P t := by
  cases c with
  | powerUp ratesel | resetN ratesel =>
    cases h
    exact kept.poweredUp ratesel hs
  | restartEffect =>
    cases h
    split
    · exact hs
    · split
      · exact hs
      · exact kept.restarted _ hs
  | receiveByte p b e =>
    cases h
    split
    · exact hs
    · exact kept.link _ hs
  | gapExpiry p =>
    cases h
    split
    · exact hs
    · exact kept.link _ hs
  | referencePulse interval =>
    cases h
    split
    · split
      · exact hs
      · exact kept.post _ _ (kept.tick _ hs)
    · split
      · split
        · exact kept.post _ _ (kept.tick _ hs)
        · exact kept.tick _ hs
      · exact kept.tick _ hs
  | referenceLost =>
    cases h
    split
    · exact kept.post _ _ (kept.tick _ hs)
    · exact hs
  | transmitReply p =>
    cases h
    split
    · exact hs
    · exact kept.link _ hs
  | transmitNotice p =>
    cases h
    dsimp only
    split
    · exact hs
    · split
      · exact hs
      · exact kept.link _ hs
  | _ => cases outer

theorem KeptByChanges.outer (kept : KeptByChanges P) : KeptByOuter P where
  post x d := kept.moves ((State.Moves.refl _).post x d)
  link := kept.link
  tick := kept.tick
  poweredUp := kept.poweredUp
  restarted := kept.restarted

/-- Every command keeps a property that the changes of a lane keep, and the frames that take a seq. -/
theorem KeptByChanges.exec (kept : KeptByChanges P) (takes : KeptByTakes P) {c : Instr} (hs : P s)
    (h : Machine.exec c s = .next t) : P t :=
  kept.messages.exec_of_takes takes (kept.messages.executor kept.link) (fun outer _ ht => kept.outer.exec hs outer ht) hs h

end

end Sys2Proof.Machine

namespace Sys2Proof.Machine

section
variable {P : State → Prop} {s t : State} {l k : Lane} {b c : LaneBody}

/-! ### The error map (O26) -/

theorem Store.wf_of_errs {st st' : Store} (h : st'.errs = st.errs) (wf : st.wf = true) : st'.wf = true := by
  rwa [Store.wf_iff, h, ← Store.wf_iff]

theorem errs_wf_moves (h : s.Moves LaneBody.Keeps t) (wf : s.store.wf = true) : t.store.wf = true := by
  refine h.keeps (P := fun u => u.store.wf = true) (fun u v m hu => ?_) wf
  cases m with
  | write p => exact errs_wf_writePage _ p hu
  | read k e => exact Store.wf_of_errs (State.readErr_errs u k e) hu
  | post | count | body => exact hu

theorem errs_wf_keptByChanges : KeptByChanges fun s => s.store.wf = true where
  moves := errs_wf_moves
  link _ := id
  panel _ := id
  tick _ := id
  clearCounters _ := id
  fresh {_ _} _ {_} _ _ wf := wf
  reconfigured {_ _ _} _ {_} _ _ wf := wf
  flush _ wf := wf
  clearCounts := id
  arm _ _ := id
  poweredUp _ := id
  restarted _ := id

theorem errs_wf_keptByTakes : KeptByTakes fun s => s.store.wf = true where
  line h := errs_wf_moves h.lineKeepsToKeeps
  begun {s _ _ _} _ {_} wf _ _ _ allocated := by
    obtain ⟨-, -, -, -, -, errs⟩ := Store.allocate_spec allocated
    exact Store.wf_of_errs (st := s.store) errs wf
  filled wf _ _ _ := wf

/-! ### Budgets (O24) -/

/-- A lane keeps within the budget that stands beside it, an OFF lane's being 0 (R30). -/
def withinBudget (b : Option LaneBody) (n : Nat) : Prop :=
  match b with
  | none => n = 0
  | some b => b.WithinBudget n

/-- The budgets of the four lanes together. -/
def Store.reserved (st : Store) : Nat := st.budget.l1 + st.budget.l2 + st.budget.l3 + st.budget.l4

theorem budgetsKept_iff (s : State) : BudgetsKept s ↔
    (∀ l, withinBudget (s.body? l) (s.store.budget.get l)) ∧ s.store.reserved ≤ Config.poolPages := Iff.rfl

theorem budgetsKept_congr (budget : t.store.budget = s.store.budget) (bodies : ∀ l, t.body? l = s.body? l)
    (h : BudgetsKept s) : BudgetsKept t := by
  rw [budgetsKept_iff] at h ⊢
  simpa only [bodies, budget, Store.reserved] using h

/-- One lane changed within its budget. -/
theorem budgetsKept_setBody (h : BudgetsKept s) {x : Option LaneBody} (hx : withinBudget x (s.store.budget.get l)) :
    BudgetsKept (s.setBody l x) := by
  rw [budgetsKept_iff] at h ⊢
  refine ⟨fun k => ?_, h.2⟩
  by_cases same : k = l
  · subst same
    rwa [State.body?_setBody_self]
  · rw [State.body?_setBody_ne _ _ same]
    exact h.1 k

theorem budgetsKept_moves (h : s.Moves LaneBody.Keeps t) (hs : BudgetsKept s) : BudgetsKept t := by
  refine h.keeps (fun u v m hu => ?_) hs
  cases m with
  | post => exact hu
  | count => exact budgetsKept_congr (s := u) rfl (by simp) hu
  | write p => exact budgetsKept_congr (Store.writePage_budget _ p) (fun _ => rfl) hu
  | read k e =>
    exact budgetsKept_congr (State.readErr_budget u k e) (fun l => by rw [State.body?, State.readErr_lanes]; rfl) hu
  | body l b c freed hb keeps =>
    have within : b.WithinBudget (u.store.budget.get l) := by simpa only [withinBudget, hb] using hu.1 l
    exact budgetsKept_setBody (x := some c) hu (keeps.withinBudget within)

theorem Store.reserved_setBudget (s : State) (l : Lane) (n : Nat) :
    (s.setBudget l n).store.reserved = n + s.store.reservedElsewhere l := by
  cases l <;> simp [Store.reserved, State.setBudget, Store.reservedElsewhere, allLanes, PerLane.set, PerLane.get] <;> omega

/-- One lane changed with its budget, the other lanes' budgets leaving it room (R3). -/
theorem budgetsKept_setBudget {n : Nat} (hs : BudgetsKept s) (others : ∀ k, k ≠ l → t.body? k = s.body? k)
    (budget : t.store.budget = s.store.budget) (own : withinBudget (t.body? l) n)
    (room : n + s.store.reservedElsewhere l ≤ Config.poolPages) : BudgetsKept (t.setBudget l n) := by
  rw [budgetsKept_iff] at hs ⊢
  refine ⟨fun k => ?_, ?_⟩
  · rw [State.body?_setBudget, State.setBudget, PerLane.get_set]
    split
    · next same => subst same; exact own
    · next other => rw [others k other, budget]; exact hs.1 k
  · rw [Store.reserved_setBudget]
    simpa only [Store.reservedElsewhere, budget] using room

theorem reservedElsewhere_le (hs : BudgetsKept s) (l : Lane) : 0 + s.store.reservedElsewhere l ≤ Config.poolPages := by
  have total := hs.2
  cases l <;> simp [Store.reservedElsewhere, allLanes, PerLane.get] <;> omega

theorem pagesPerFrame_pos (v : VideoClass) : 0 < pagesPerFrame v := by cases v <;> decide

/-- An empty line is within any budget of six frames (R2). -/
theorem withinBudget_empty {n : Nat} (least : 6 * pagesPerFrame b.fmt.vclass ≤ n)
    (most : b.maxH = maxRecords n b.fmt.vclass) (records : b.dl.records = []) (arrival : b.intake.arrival = none)
    (hold : b.play.hold = none) : b.WithinBudget n := by
  refine ⟨least, most, ?_, ?_, ?_, ?_⟩ <;> simp [LaneBody.h, records, arrival, hold]

theorem budgetsKept_reset : BudgetsKept State.reset := ⟨fun l => by cases l <;> rfl, by decide⟩

theorem budgets_keptByChanges : KeptByChanges BudgetsKept where
  moves := budgetsKept_moves
  link _ := id
  panel _ := id
  tick _ := id
  clearCounters l := budgetsKept_congr rfl (by simp)
  fresh {s l} fmt {n} off grants hs := by
    refine budgetsKept_setBudget hs (fun k other => ?_) rfl ?_ grants.2
    · rw [State.body?, PerLane.get_set_ne _ _ other]
      rfl
    · rw [State.body?, PerLane.get_set_self]
      exact withinBudget_empty grants.1 rfl rfl rfl rfl
  reconfigured {s l b} fmt {n} hb grants hs := by
    refine budgetsKept_setBudget hs (fun k other => ?_) rfl ?_ grants.2
    · rw [State.body?_freePages, State.body?_setBody_ne _ _ other]
    · rw [State.body?_freePages, State.body?_setBody_self]
      exact withinBudget_empty grants.1 rfl rfl rfl rfl
  flush {s l b} hb hs := by
    refine budgetsKept_setBudget hs (fun k other => ?_) rfl ?_ (reservedElsewhere_le hs l)
    · rw [State.body?_freePages, State.body?_setBody_ne _ _ other]
    · rw [State.body?_freePages, State.body?_setBody_self]
      rfl
  clearCounts := id
  arm _ _ := id
  poweredUp _ _ := budgetsKept_congr (s := State.reset) rfl (fun _ => rfl) budgetsKept_reset
  restarted _ _ := budgetsKept_congr (s := State.reset) rfl (fun _ => rfl) budgetsKept_reset

/-- A line with no frame arriving and below its limit has room for one more (R44, R68). -/
theorem frameCount_succ_le {n : Nat} (within : b.WithinBudget n)
    (room : 0 < b.maxH → b.h < b.lineLimit) : b.h + 1 ≤ b.maxH := by
  rw [LaneBody.withinBudget_iff] at within
  obtain ⟨least, most, -, -⟩ := within
  have frames : 6 ≤ n / pagesPerFrame b.fmt.vclass := (Nat.le_div_iff_mul_le (pagesPerFrame_pos _)).2 least
  have limit : b.lineLimit ≤ b.maxH := by
    unfold LaneBody.lineLimit
    split <;> omega
  have := room (by omega)
  omega

theorem withinBudget_begun {n : Nat} (within : b.WithinBudget n)
    (room : 0 < b.maxH → b.h < b.lineLimit) (raster : Raster) {pages : List PageNo}
    (fit : pages.length = pagesPerFrame b.fmt.vclass) : (b.begun raster pages).WithinBudget n := by
  have more := frameCount_succ_le within room
  rw [LaneBody.withinBudget_iff] at within ⊢
  obtain ⟨least, most, -, -, held, hold⟩ := within
  exact ⟨least, most, more, fun f hf => (by cases hf; exact fit.le), held, hold⟩

theorem withinBudget_filled {n : Nat} (within : b.WithinBudget n) (waits : b.intake.arrival = none)
    (room : 0 < b.maxH → b.h < b.lineLimit) : b.filled.WithinBudget n := by
  have more := frameCount_succ_le within room
  rw [LaneBody.withinBudget_iff] at within ⊢
  obtain ⟨least, most, -, arriving, held, hold⟩ := within
  refine ⟨least, most, ?_, arriving, fun r hr => ?_, hold⟩
  · have : b.filled.h ≤ b.h + 1 := by
      show List.length (if _ then _ else _) ≤ _
      split <;> simp [LaneBody.h]
    have waiting : b.filled.intake.arrival = none := waits
    simp only [LaneBody.frameCount, waiting, Option.isSome_none, Bool.false_eq_true, if_false]
    exact this.trans more
  · change r ∈ (if _ then _ else _) at hr
    split at hr
    · exact held r hr
    · rcases List.mem_append.mp hr with hr | hr
      · exact held r hr
      · cases List.mem_singleton.mp hr
        exact Nat.zero_le _

theorem budgets_keptByTakes : KeptByTakes BudgetsKept where
  line h := budgetsKept_moves h.lineKeepsToKeeps
  begun {s l b store} raster {pages} hs hb _ room allocated := by
    obtain ⟨-, fit, -, budget, -, -⟩ := Store.allocate_spec allocated
    have within : b.WithinBudget (s.store.budget.get l) := by simpa only [withinBudget, hb] using hs.1 l
    refine budgetsKept_setBody (s := { s with store := store }) (budgetsKept_congr budget (fun _ => rfl) hs) ?_
    show LaneBody.WithinBudget _ (store.budget.get l)
    rw [budget]
    exact withinBudget_begun within room raster fit
  filled {s l b} hs hb waits room := by
    have within : b.WithinBudget (s.store.budget.get l) := by simpa only [withinBudget, hb] using hs.1 l
    exact budgetsKept_setBody (x := some b.filled) hs (withinBudget_filled within waits room)

end

end Sys2Proof.Machine

section
open Sys2Proof Sys2Proof.Machine

/-- Settles O26: only page writes change the error map, and they keep it sorted. -/
theorem errorMapStaysCanonical : Obligations.ErrorMapStaysCanonical :=
  fun _ _ _ wf h => errs_wf_keptByChanges.exec errs_wf_keptByTakes wf h

/-- Settles O24: a lane's changes keep its frames within M, a frame starts only where the full-line check left room, and a
budget is granted only from what the other lanes leave. -/
theorem lanesStayWithinBudget : Obligations.LanesStayWithinBudget :=
  fun _ _ _ hs h => budgets_keptByChanges.exec budgets_keptByTakes hs h

end

namespace Sys2Proof.Machine

section
variable {P : State → Prop} {s t : State} {l k : Lane} {b c : LaneBody}

/-! ### Pages (O23) -/

/-- The pages of a lane, none in OFF (R28). -/
def lanePages (b : Option LaneBody) : List PageNo := (b.map LaneBody.pages).getD []

/-- The pages of all lanes. -/
def State.lentPages (s : State) : List PageNo := allLanes.flatMap fun l => lanePages (s.body? l)

theorem pagesOwned_iff (s : State) : PagesOwned s ↔
    (freeList s.store.free ++ s.lentPages).Perm (List.range Config.poolPages) ∧
      ∀ l, s.store.inUse.get l = (lanePages (s.body? l)).length := Iff.rfl

theorem pagesOwned_congr (free : t.store.free = s.store.free) (inUse : t.store.inUse = s.store.inUse)
    (bodies : ∀ l, t.body? l = s.body? l) (h : PagesOwned s) : PagesOwned t := by
  rw [pagesOwned_iff] at h ⊢
  simpa only [State.lentPages, bodies, free, inUse] using h

/-- How often a page occurs among the pages of all lanes, one lane's told apart. -/
theorem count_lentPages (s : State) (l : Lane) (p : PageNo) : s.lentPages.count p =
    (lanePages (s.body? l)).count p + ((allLanes.filter (· != l)).flatMap fun k => lanePages (s.body? k)).count p := by
  cases l <;>
    simp [State.lentPages, allLanes, List.flatMap_cons, List.count_append] <;> omega

/-- Pages pass between one lane and the free list, and the in-use count follows (R28, R29, R31). -/
theorem pagesOwned_passed {x : Option LaneBody} (h : PagesOwned s) (others : ∀ k, k ≠ l → t.body? k = s.body? k)
    (own : t.body? l = x) (inUse : t.store.inUse = s.store.inUse.set l (lanePages x).length)
    (passed : (freeList s.store.free ++ lanePages (s.body? l)).Perm (freeList t.store.free ++ lanePages x)) :
    PagesOwned t := by
  rw [pagesOwned_iff] at h ⊢
  obtain ⟨perm, counts⟩ := h
  refine ⟨List.Perm.trans ?_ perm, fun k => ?_⟩
  · have rest : (allLanes.filter (· != l)).flatMap (fun k => lanePages (t.body? k)) =
        (allLanes.filter (· != l)).flatMap fun k => lanePages (s.body? k) :=
      List.flatMap_congr fun k hk => by rw [others k (by simpa using (List.mem_filter.mp hk).2)]
    rw [List.perm_iff_count] at passed ⊢
    intro p
    have swap := passed p
    rw [List.count_append, List.count_append] at swap ⊢
    rw [count_lentPages t l, count_lentPages s l, own, rest]
    omega
  · rw [inUse, PerLane.get_set]
    split
    · next same => rw [same, own]
    · next other => rw [others k other, counts k]

theorem State.inUse_eq (h : PagesOwned s) (l : Lane) : s.store.inUse.get l = (lanePages (s.body? l)).length := h.2 l

/-- A lane gives up some of its pages, or all. -/
theorem pagesOwned_freed (h : PagesOwned s) {x : Option LaneBody} {freed : List PageNo}
    (split : (lanePages (s.body? l)).Perm (lanePages x ++ freed)) :
    PagesOwned ((s.setBody l x).freePages l freed) := by
  obtain ⟨free, inUse, -, -, -⟩ := Store.giveBack_spec s.store l freed
  refine pagesOwned_passed h (l := l) (fun k other => State.body?_setBody_ne _ _ other) (State.body?_setBody_self _ _ _)
    ?_ ?_
  · have length := split.length_eq
    rw [List.length_append] at length
    show (s.store.giveBack l freed).inUse = _
    rw [inUse, State.inUse_eq h]
    congr 1
    omega
  · show (freeList s.store.free ++ _).Perm (freeList (s.store.giveBack l freed).free ++ _)
    rw [free, List.append_assoc]
    exact (split.trans List.perm_append_comm).append_left _

theorem pagesOwned_moves (h : s.Moves LaneBody.Keeps t) (hs : PagesOwned s) : PagesOwned t := by
  refine h.keeps (fun u v m hu => ?_) hs
  cases m with
  | post => exact hu
  | count => exact pagesOwned_congr (s := u) rfl rfl (by simp) hu
  | write p => exact pagesOwned_congr (Store.writePage_free _ p) (Store.writePage_inUse _ p) (fun _ => rfl) hu
  | read k e =>
    exact pagesOwned_congr (State.readErr_free u k e) (State.readErr_inUse u k e)
      (fun l => by rw [State.body?, State.readErr_lanes]; rfl) hu
  | body l b c freed hb keeps => exact pagesOwned_freed hu (by rw [hb]; exact keeps.pages)

theorem pagesOwned_reset : PagesOwned State.reset := by
  rw [pagesOwned_iff]
  refine ⟨?_, fun l => by cases l <;> rfl⟩
  have free : freeList State.reset.store.free = List.range Config.poolPages := by
    simp only [State.reset, Store.reset, freeList, List.append_nil, List.range_eq_range']
    rfl
  rw [free, show State.reset.lentPages = [] from rfl, List.append_nil]

theorem pages_keptByChanges : KeptByChanges PagesOwned where
  moves := pagesOwned_moves
  link _ := id
  panel _ := id
  tick _ := id
  clearCounters {s} l := pagesOwned_congr (s := s) rfl rfl (by simp)
  fresh {s l} fmt {n} off _ hs := by
    refine pagesOwned_passed (l := l) hs (fun k other => ?_)
      (x := some (.fresh fmt (maxRecords n fmt.vclass))) ?_ ?_ ?_
    · rw [State.body?_setBudget, State.body?, PerLane.get_set_ne _ _ other]
      rfl
    · rw [State.body?_setBudget, State.body?, PerLane.get_set_self]
    · have empty := State.inUse_eq hs l
      rw [off] at empty
      show s.store.inUse = s.store.inUse.set l 0
      rw [show 0 = s.store.inUse.get l from empty.symm, PerLane.set_get]
    · rw [off]
      exact .refl _
  reconfigured {s l b} fmt {n} hb _ hs := by
    refine pagesOwned_congr rfl rfl (fun _ => rfl) (pagesOwned_freed hs (x := some (b.reconfigured fmt _)) ?_)
    rw [hb]
    exact .refl _
  flush {s l b} hb hs := by
    refine pagesOwned_congr rfl rfl (fun _ => rfl) (pagesOwned_freed hs (x := none) ?_)
    rw [hb]
    exact .refl _
  clearCounts := id
  arm _ _ := id
  poweredUp _ _ := pagesOwned_congr (s := State.reset) rfl rfl (fun _ => rfl) pagesOwned_reset
  restarted _ _ := pagesOwned_congr (s := State.reset) rfl rfl (fun _ => rfl) pagesOwned_reset

theorem pages_keptByTakes : KeptByTakes PagesOwned where
  line h := pagesOwned_moves h.lineKeepsToKeeps
  begun {s l b store} raster {pages} hs hb waits _ allocated := by
    obtain ⟨free, length, inUse, -, -, -⟩ := Store.allocate_spec allocated
    have given : (b.begun raster pages).pages = pages ++ b.pages := by
      simp [LaneBody.pages_eq, arrivalPages, waits, LaneBody.begun, LaneBody.starting]
    refine pagesOwned_passed (l := l) hs (fun k other => State.body?_setBody_ne _ _ other)
      (State.body?_setBody_self _ _ _) ?_ ?_
    · show store.inUse = _
      rw [inUse, State.inUse_eq hs, hb]
      congr 1
      show b.pages.length + _ = List.length (LaneBody.pages _)
      rw [given, List.length_append, length, Nat.add_comm]
    · show (freeList s.store.free ++ _).Perm (freeList store.free ++ LaneBody.pages _)
      rw [given, hb, free]
      show (pages ++ freeList store.free ++ b.pages).Perm (freeList store.free ++ (pages ++ b.pages))
      rw [← List.append_assoc]
      exact List.perm_append_comm.append_right _
  filled {s l b} hs hb waits _ := by
    have same : b.filled.pages = b.pages := by
      simp only [LaneBody.pages_eq, LaneBody.filled]
      split
      · rfl
      · simp [recordsPages, LaneBody.fillRecord]
    refine pagesOwned_passed (l := l) hs (fun k other => State.body?_setBody_ne _ _ other)
      (State.body?_setBody_self _ _ _) ?_ ?_
    · show s.store.inUse = s.store.inUse.set l b.filled.pages.length
      have own := State.inUse_eq hs l
      rw [hb] at own
      rw [same, show b.pages.length = s.store.inUse.get l from own.symm, PerLane.set_get]
    · rw [hb]
      show (freeList s.store.free ++ b.pages).Perm (freeList s.store.free ++ b.filled.pages)
      rw [same]

end

end Sys2Proof.Machine

section
open Sys2Proof Sys2Proof.Machine

/-- Settles O23: a lane's change gives up the pages that it no longer holds, and a frame that starts takes what the free list
gives. -/
theorem pagesStayOwnedOnce : Obligations.PagesStayOwnedOnce :=
  fun _ _ _ hs h => pages_keptByChanges.exec pages_keptByTakes hs h

end

namespace Sys2Proof.Machine

section
variable {P : State → Prop} {s t : State} {l k : Lane} {b c : LaneBody}

/-! ### Allocation (O25) -/

/-- Records of at most n pages each. -/
theorem recordsPages_length_le {n : Nat} {rs : List Record} (h : ∀ r ∈ rs, r.pages.length ≤ n) :
    (recordsPages rs).length ≤ rs.length * n := by
  induction rs with
  | nil => exact Nat.zero_le _
  | cons r rs ih =>
    have head := h r List.mem_cons_self
    have tail := ih fun x hx => h x (List.mem_cons_of_mem r hx)
    simp only [recordsPages, List.flatMap_cons, List.length_append, List.length_cons, Nat.add_mul, Nat.one_mul] at tail ⊢
    omega

/-- A lane holds the pages of no more than its frames and its output hold (R33, R68). -/
theorem pages_length_le {n : Nat} (fit : b.FramesFit n) : b.pages.length ≤ (b.frameCount + 1) * n := by
  obtain ⟨arriving, held, hold⟩ := fit
  have records := recordsPages_length_le held
  have arrival : (arrivalPages b.intake.arrival).length ≤ (if b.intake.arrival.isSome then 1 else 0) * n := by
    cases h : b.intake.arrival with
    | none => exact Nat.zero_le _
    | some f => simpa [arrivalPages] using arriving f h
  have output : (holdPages b.play.hold).length ≤ n := by
    cases h : b.play.hold with
    | none => exact Nat.zero_le _
    | some r => exact hold r h
  rw [LaneBody.pages_eq, List.length_append, List.length_append]
  simp only [LaneBody.frameCount, LaneBody.h, Nat.add_mul, Nat.one_mul]
  omega

/-- M records, the in-arrival frame among them, the output hold and one frame more fit the budget (R2). -/
theorem budget_covers {n : Nat} (within : b.WithinBudget n) :
    (b.maxH + 2) * pagesPerFrame b.fmt.vclass ≤ n := by
  rw [LaneBody.withinBudget_iff] at within
  obtain ⟨least, most, -, -⟩ := within
  have frames : 6 ≤ n / pagesPerFrame b.fmt.vclass := (Nat.le_div_iff_mul_le (pagesPerFrame_pos _)).2 least
  exact (Nat.le_div_iff_mul_le (pagesPerFrame_pos _)).1 (by omega)

theorem lanePages_le_budget (hs : BudgetsKept s) (l : Lane) : (lanePages (s.body? l)).length ≤ s.store.budget.get l := by
  have own := hs.1 l
  cases hb : s.body? l with
  | none => exact Nat.zero_le _
  | some b =>
    simp only [hb] at own
    have covered := budget_covers own
    rw [LaneBody.withinBudget_iff] at own
    obtain ⟨-, -, count, fit⟩ := own
    calc b.pages.length ≤ (b.frameCount + 1) * pagesPerFrame b.fmt.vclass := pages_length_le fit
      _ ≤ (b.maxH + 2) * pagesPerFrame b.fmt.vclass := Nat.mul_le_mul_right _ (by omega)
      _ ≤ _ := covered

/-- The lanes' pages together. -/
theorem lentPages_length (s : State) : s.lentPages.length = (lanePages (s.body? .l1)).length +
    (lanePages (s.body? .l2)).length + (lanePages (s.body? .l3)).length + (lanePages (s.body? .l4)).length := by
  simp only [State.lentPages, allLanes, List.flatMap_cons, List.flatMap_nil, List.length_append, List.length_nil]
  omega

/-- Where a lane has room for a frame, the pool has its pages (R32). -/
theorem free_of_room (owned : PagesOwned s) (budgets : BudgetsKept s) (hb : s.body? l = some b)
    (waits : b.intake.arrival = none) (room : 0 < b.maxH → b.h < b.lineLimit) :
    pagesPerFrame b.fmt.vclass ≤ (freeList s.store.free).length := by
  have total : (freeList s.store.free).length + s.lentPages.length = Config.poolPages := by
    rw [← List.length_append, ((pagesOwned_iff s).mp owned).1.length_eq, List.length_range]
  have own : (lanePages (s.body? l)).length + pagesPerFrame b.fmt.vclass ≤ s.store.budget.get l := by
    have within := budgets.1 l
    simp only [hb] at within ⊢
    have covered := budget_covers within
    have more := frameCount_succ_le within room
    rw [LaneBody.withinBudget_iff] at within
    obtain ⟨-, -, -, fit⟩ := within
    have held := pages_length_le fit
    have count : b.frameCount = b.h := by simp [LaneBody.frameCount, waits]
    have times : (b.frameCount + 1) * pagesPerFrame b.fmt.vclass + pagesPerFrame b.fmt.vclass ≤
        (b.maxH + 2) * pagesPerFrame b.fmt.vclass := by
      rw [← Nat.succ_mul]
      exact Nat.mul_le_mul_right _ (by omega)
    show b.pages.length + _ ≤ _
    omega
  have pool := budgets.2
  have b1 := lanePages_le_budget budgets .l1
  have b2 := lanePages_le_budget budgets .l2
  have b3 := lanePages_le_budget budgets .l3
  have b4 := lanePages_le_budget budgets .l4
  rw [lentPages_length] at total
  cases l <;> simp only [PerLane.get] at * <;> omega

/-- Only the start of a frame can fault (log 20). -/
theorem exec_fault {c : Instr} {f : Fault} (h : exec c s = .fault f) : ∃ l raster d, c = .arrivalStart l raster d := by
  cases c with
  | arrivalStart l raster d => exact ⟨l, raster, d, rfl⟩
  | packetArrival l ty payload =>
    change execPacketArrival l ty payload s = _ at h
    unfold execPacketArrival at h
    split_ifs at h
    split at h
    · cases h
    · split at h
      · cases h
      · split_ifs at h
  | arrivalCompletion l d =>
    change execArrivalCompletion l d s = _ at h
    unfold execArrivalCompletion at h
    split_ifs at h
    split at h
    · cases h
    · split at h <;> cases h
  | _ => cases h

/-- A frame that starts finds its pages (R31, R32). -/
theorem arrivalStart_no_fault (owned : PagesOwned s) (budgets : BudgetsKept s) (l : Lane) (raster : Raster) (d : Delivery)
    (f : Fault) : execArrivalStart l raster d s ≠ .fault f := by
  have moved := (State.moves_beforeStart s l d).toLineKeeps.lineKeepsToKeeps
  intro h
  unfold execArrivalStart at h
  split at h
  · cases h
  · dsimp only at h
    split at h
    · cases h
    · next b hb =>
      split at h
      · next none =>
        have fewer := Store.allocate_none none
        have free := free_of_room (pagesOwned_moves moved owned) (budgetsKept_moves moved budgets) hb
          (State.arrivalStart_waits s l d b hb) (State.fullLineCheck_room hb)
        omega
      · cases h

/-! ### The bounds of a lane (O27) -/

/-- One counter is raised, staying at its cap (R5). -/
theorem LaneCounters.bounded_add {x : LaneCounters} (h : x.Bounded) (k : Counter) (n : Nat) : (x.add k n).Bounded := by
  obtain ⟨underrun, overflow, slip, damaged, malformed, formatMismatch, ancDropped, ancLost, carryLost, linkSlip⟩ := h
  cases k <;> simp only [LaneCounters.Bounded, LaneCounters.add, satAdd_le, and_self, *]

theorem Bank.bounded_read {x : Bank} (h : x.Bounded) (e : WordErr) : (x.read e).Bounded := by
  obtain ⟨data, check, uncorrectable⟩ := h
  unfold Bank.read
  split <;> simp only [Bank.Bounded, satAdd_le, and_self, *]

/-- What is kept of a configured lane. -/
def LaneBody.Sound (b : LaneBody) : Prop := 4 ≤ b.maxH ∧ b.Bounded ∧ b.CarryKept

theorem LaneBody.Keeps.sound {freed : List PageNo} (h : b.Keeps c freed) (hb : b.Sound) : c.Sound := by
  obtain ⟨large, bounded, carry⟩ := hb
  exact ⟨h.maxH ▸ large, h.bounded large bounded, h.carry carry⟩

theorem lanesBounded_iff (s : State) : LanesBounded s ↔ (∀ l b, s.body? l = some b → b.Sound) ∧
    (∀ l, (s.lanes.get l).counters.Bounded) ∧ ∀ k, (s.store.banks.get k).Bounded := Iff.rfl

/-- One lane's body changed. -/
theorem lanesBounded_setBody (h : LanesBounded s) {x : Option LaneBody} (hx : ∀ b, x = some b → b.Sound) :
    LanesBounded (s.setBody l x) := by
  rw [lanesBounded_iff] at h ⊢
  obtain ⟨bodies, counters, banks⟩ := h
  refine ⟨fun k b hb => ?_, fun k => ?_, banks⟩
  · by_cases same : k = l
    · subst same
      exact hx b (by rwa [State.body?_setBody_self] at hb)
    · exact bodies k b (by rwa [State.body?_setBody_ne _ _ same] at hb)
  · rw [State.counters_setBody]
    exact counters k

/-- The store changed, its banks within their bounds. -/
theorem lanesBounded_store (h : LanesBounded s) {st : Store} (banks : ∀ k, (st.banks.get k).Bounded) :
    LanesBounded { s with store := st } := ⟨h.1, h.2.1, banks⟩

theorem banks_setBank {st : Store} (h : ∀ k, (st.banks.get k).Bounded) (k : Fin 8) {x : Bank} (hx : x.Bounded) (j : Fin 8) :
    ((st.setBank k x).banks.get j).Bounded := by
  have other := h j
  simp only [Store.setBank, Vector.get_eq_getElem, Vector.getElem_set] at other ⊢
  split
  · exact hx
  · exact other

theorem banks_writePage {st : Store} (h : ∀ k, (st.banks.get k).Bounded) (p : PageNo) (j : Fin 8) :
    ((st.writePage p).banks.get j).Bounded := by
  unfold Store.writePage
  dsimp only
  split
  · exact h j
  · exact banks_setBank h _ (x := { st.banks.get (bankOf p) with arm := none }) (h (bankOf p)) j

theorem lanesBounded_moves (h : s.Moves LaneBody.Keeps t) (hs : LanesBounded s) : LanesBounded t := by
  refine h.keeps (fun u v m hu => ?_) hs
  cases m with
  | post => exact hu
  | count l k n =>
    rw [lanesBounded_iff] at hu ⊢
    obtain ⟨bodies, counters, banks⟩ := hu
    refine ⟨fun j b hb => bodies j b (by rwa [State.body?_count] at hb), fun j => ?_, banks⟩
    by_cases same : j = l
    · subst same
      rw [State.counters_count_self]
      exact LaneCounters.bounded_add (counters j) k n
    · rw [State.lanes_count_ne _ _ _ same]
      exact counters j
  | write p => exact lanesBounded_store hu (banks_writePage hu.2.2 p)
  | read k e =>
    have counted := lanesBounded_store hu (banks_setBank hu.2.2 k (Bank.bounded_read (hu.2.2 k) e))
    unfold State.readErr
    dsimp only
    split <;> exact counted
  | body l b c freed hb keeps =>
    exact lanesBounded_setBody (x := some c) hu fun d hd => Option.some.inj hd ▸ keeps.sound (hu.1 l b hb)

/-- A lane of six frames' budget holds at least 4 records (R2). -/
theorem maxRecords_ge {n : Nat} {v : VideoClass} (least : 6 * pagesPerFrame v ≤ n) : 4 ≤ maxRecords n v := by
  have frames : 6 ≤ n / pagesPerFrame v := (Nat.le_div_iff_mul_le (pagesPerFrame_pos v)).2 least
  unfold maxRecords
  omega

theorem GovSettings.within_default : GovSettings.default.Within := by
  refine ⟨by decide, by decide, by decide, .inl rfl, by decide⟩

theorem GovState.within_fresh : GovState.fresh.Within := by
  simp [GovState.Within, GovState.fresh]

theorem Playout.within_fresh {fill : CoverFill} (h : fill.amplitude ≤ 8388607) (r : Fin 8) :
    (Playout.fresh fill).Within r := ⟨cadencePeriod_pos r, Nat.zero_lt_succ _, Nat.zero_le _, h⟩

theorem DelayLine.within_fresh : DelayLine.fresh.Within := ⟨Nat.zero_le _, Nat.zero_le _⟩

theorem LaneBody.sound_fresh (fmt : Format) {m : Nat} (large : 4 ≤ m) : (LaneBody.fresh fmt m).Sound := by
  refine ⟨large, (LaneBody.bounded_iff _).2 ⟨⟨fun _ h => (by cases h), .inl rfl, Nat.zero_le _⟩,
    ⟨Nat.zero_le _, Nat.zero_le _, fun _ h => (by cases h)⟩, DelayLine.within_fresh,
    Playout.within_fresh (Nat.zero_le _) _, GovState.within_fresh, GovSettings.within_default⟩, ?_, ?_⟩
  · exact fun r hr => nomatch hr
  · exact fun f hf => nomatch hf

theorem Timing.within_recompute {x : Timing} {m n : Nat} (within : x.Within m) (r : Fin 8) (large : 4 ≤ n) :
    (x.recompute r n).1.Within n := by
  refine ⟨fun y hy => ?_, dumpSetting_within _ large, leadSetting_within _ _ _⟩
  simp only [Timing.recompute, Option.map_map, Option.map_eq_some_iff] at hy
  obtain ⟨z, hz, rfl⟩ := hy
  exact targetSetting_within large (within.1 z hz).1

theorem LaneBody.sound_reconfigured (hb : b.Sound) (fmt : Format) {m : Nat} (large : 4 ≤ m) :
    (b.reconfigured fmt m).Sound := by
  obtain ⟨-, bounded, -⟩ := hb
  rw [LaneBody.bounded_iff] at bounded
  obtain ⟨timing, -, -, ⟨-, -, -, fill⟩, -, govSet⟩ := bounded
  refine ⟨large, (LaneBody.bounded_iff _).2 ⟨Timing.within_recompute timing _ large,
    ⟨Nat.zero_le _, Nat.zero_le _, fun _ h => (by cases h)⟩, DelayLine.within_fresh,
    Playout.within_fresh fill _, GovState.within_fresh, govSet⟩, ?_, ?_⟩
  · exact fun r hr => nomatch hr
  · exact fun f hf => nomatch hf

theorem lanesBounded_reset : LanesBounded State.reset := by
  refine ⟨fun l b hb => (by cases l <;> cases hb), fun l => ?_, fun k => ?_⟩
  · cases l <;> simp [State.reset, LaneSlot.off, PerLane.get, LaneCounters.Bounded, LaneCounters.zero]
  · simp [State.reset, Store.reset, Vector.get_eq_getElem, Bank.Bounded, Bank.clear]

theorem bounds_keptByChanges : KeptByChanges LanesBounded where
  moves := lanesBounded_moves
  link _ := id
  panel _ := id
  tick _ := id
  clearCounters {s} l hs := by
    refine ⟨fun k b hb => hs.1 k b (by rwa [State.body?_clearCounters] at hb), fun k => ?_, hs.2.2⟩
    simp only [State.clearCounters, PerLane.get_set]
    split
    · simp [LaneCounters.Bounded, LaneCounters.zero]
    · exact hs.2.1 k
  fresh {s l} fmt {n} off grants hs := by
    refine ⟨fun k b hb => ?_, fun k => ?_, hs.2.2⟩
    · rw [State.body?_setBudget, State.body?, PerLane.get_set] at hb
      split at hb
      · cases hb
        exact LaneBody.sound_fresh fmt (maxRecords_ge grants.1)
      · exact hs.1 k b hb
    · simp only [State.setBudget_lanes, PerLane.get_set]
      split
      · simp [LaneCounters.Bounded, LaneCounters.zero]
      · exact hs.2.1 k
  reconfigured {s l b} fmt {n} hb grants hs :=
    lanesBounded_setBody (x := some (b.reconfigured fmt _)) hs fun c hc =>
      Option.some.inj hc ▸ LaneBody.sound_reconfigured (hs.1 l b hb) fmt (maxRecords_ge grants.1)
  flush {s l b} _ hs := lanesBounded_setBody (x := none) hs fun c hc => nomatch hc
  clearCounts {s} hs := lanesBounded_store hs fun k => by
    simp [Vector.get_eq_getElem, Bank.Bounded, Bank.clearCounts]
  arm {s} k arm hs := lanesBounded_store hs (banks_setBank hs.2.2 k (hs.2.2 k))
  poweredUp _ _ := ⟨lanesBounded_reset.1, lanesBounded_reset.2.1, lanesBounded_reset.2.2⟩
  restarted {s} _ hs := ⟨lanesBounded_reset.1, lanesBounded_reset.2.1, fun k => by
    have := hs.2.2 k
    simpa [Vector.get_eq_getElem, Bank.Bounded, Bank.restarted] using this⟩

theorem LaneBody.sound_begun (hb : b.Sound) (raster : Raster) (pages : List PageNo) : (b.begun raster pages).Sound := by
  obtain ⟨large, bounded, carry⟩ := hb
  rw [LaneBody.bounded_iff] at bounded
  obtain ⟨timing, ⟨ticks, owed, -⟩, rest⟩ := bounded
  exact ⟨large, (LaneBody.bounded_iff _).2 ⟨timing, ⟨ticks, owed, fun f hf => by cases hf; exact Nat.zero_le _⟩, rest⟩,
    carry.1, fun f hf => by cases hf; rfl⟩

theorem LaneBody.sound_filled (hb : b.Sound) : b.filled.Sound := by
  obtain ⟨large, bounded, records, arriving⟩ := hb
  rw [LaneBody.bounded_iff] at bounded
  refine ⟨large, (LaneBody.bounded_iff _).2 bounded, fun r hr => ?_, arriving⟩
  change r ∈ (if _ then _ else _) at hr
  split at hr
  · exact records r hr
  · rcases List.mem_append.mp hr with hr | hr
    · exact records r hr
    · cases List.mem_singleton.mp hr
      rfl

theorem bounds_keptByTakes : KeptByTakes LanesBounded where
  line h := lanesBounded_moves h.lineKeepsToKeeps
  begun {s l b store} raster {pages} hs hb _ _ allocated := by
    obtain ⟨-, -, -, -, banks, -⟩ := Store.allocate_spec allocated
    exact lanesBounded_setBody (x := some (b.begun raster pages)) (lanesBounded_store hs (banks ▸ hs.2.2))
      fun c hc => Option.some.inj hc ▸ LaneBody.sound_begun (hs.1 l b hb) raster pages
  filled {s l b} hs hb _ _ := lanesBounded_setBody (x := some b.filled) hs fun c hc =>
    Option.some.inj hc ▸ LaneBody.sound_filled (hs.1 l b hb)

end

end Sys2Proof.Machine

section
open Sys2Proof Sys2Proof.Machine

/-- Settles O25: the only allocation is at a frame's start, on a lane with room within its budget, and the other lanes hold no
more than theirs. -/
theorem allocationNeverFails : Obligations.AllocationNeverFails := by
  intro c s owned budgets f h
  obtain ⟨l, raster, d, rfl⟩ := exec_fault h
  exact arrivalStart_no_fault owned budgets l raster d f h

/-- Settles O27: a lane's changes keep the bounds of its parts, and each count saturates. -/
theorem laneBoundsAreKept : Obligations.LaneBoundsAreKept :=
  fun _ _ _ hs h => bounds_keptByChanges.exec bounds_keptByTakes hs h

end

namespace Sys2Proof.Machine

section
variable {P : State → Prop} {s t : State} {l k : Lane} {b c : LaneBody} {i : Fin 16} {x y : InLine} {g : GroupId}

/-! ### What leaves the panel alone -/

theorem State.Moves.panel (h : s.Moves LaneBody.Keeps t) : t.panel = s.panel := by
  refine h.keeps (P := fun u => u.panel = s.panel) (fun u v m hu => ?_) rfl
  cases m with
  | post | count | write | body => exact hu
  | read k e => rwa [State.readErr_panel]

theorem State.removeSource_panel (s : State) (l : Lane) (src : CoverSource) : (s.removeSource l src).panel = s.panel :=
  (State.moves_removeSource s l src).toKeeps.panel

theorem State.configure_panel (s : State) (l : Lane) (fmt : Format) (n : Nat) (force : Bool) :
    (s.configure l fmt n force).1.panel = s.panel := by
  unfold State.configure
  dsimp only
  split
  · split <;> rfl
  · split_ifs <;> rfl

theorem State.release_panel (s : State) (l : Lane) : (s.release l).1.panel = s.panel := by
  unfold State.release
  split
  · rfl
  · exact ((State.Moves.refl s).foldl (s.followersOf l) State.moves_makeIndependent).toKeeps.panel

theorem State.onReached_panel {f : State → Lane → State} (h : (f s l).panel = s.panel) :
    (s.onReached l f).panel = s.panel :=
  State.onReached_keeps (P := fun u => u.panel = s.panel) rfl fun _ => h

/-- A group that returns to ARMED is FIRED no more; no line changes (R156). -/
@[simp] theorem State.rearmGroup_panel (s : State) (g : GroupId) :
    (s.rearmGroup g).panel = { s.panel with fired := s.panel.fired.filter (· != g) } := by
  unfold State.rearmGroup
  dsimp only
  split
  · exact foldl_keeps _ State.panel (fun u l => State.onReached_panel (State.removeSource_panel u l .panel)) _ _
  · rfl

/-! ### The active members of a group -/

/-- A line is an active member of a group (R153, R154). -/
def InLine.Activates (x : InLine) (g : GroupId) : Prop := x.group = some g ∧ x.level = true

theorem Panel.anyActive_iff (p : Panel) (g : GroupId) :
    p.anyActive g = true ↔ ∃ i : Fin 16, (p.inputs.get i).Activates g := by
  simp only [Panel.anyActive, toList_eq_map_get, List.any_map, List.any_eq_true, List.mem_finRange, true_and,
    Function.comp_apply, Bool.and_eq_true, beq_iff_eq, InLine.Activates]

theorem State.inputs_setInput_ne {j : Fin 16} (h : j ≠ i) :
    (s.setInput i x).panel.inputs.get j = s.panel.inputs.get j := by
  simp only [State.setInput, Vector.get_eq_getElem]
  exact Vector.getElem_set_ne _ _ fun eq => h (Fin.ext eq.symm)

/-- A group's activity depends on a line that is set only as far as the line was or is an active member. -/
theorem anyActive_setInput (h : (s.panel.inputs.get i).Activates g ↔ x.Activates g) :
    (s.setInput i x).panel.anyActive g = s.panel.anyActive g := by
  rw [Bool.eq_iff_iff, Panel.anyActive_iff, Panel.anyActive_iff]
  refine exists_congr fun j => ?_
  by_cases same : j = i
  · subst same
    rw [State.inputs_setInput_self, h]
  · rw [State.inputs_setInput_ne same]

theorem anyActive_of_activates (h : (s.panel.inputs.get i).Activates g) : s.panel.anyActive g = true :=
  (Panel.anyActive_iff _ _).mpr ⟨i, h⟩

theorem anyActive_setInput_self (h : x.Activates g) : (s.setInput i x).panel.anyActive g = true :=
  anyActive_of_activates (i := i) (by rwa [State.inputs_setInput_self])

theorem not_activates_of_inactive (h : x.level = false) (g : GroupId) : ¬x.Activates g := by
  simp [InLine.Activates, h]

theorem not_activates_of_group_ne (h : x.group ≠ some g) : ¬x.Activates g := by
  simp [InLine.Activates, h]

/-! ### The panel's invariant (O29) -/

/-- A line keeps its filter count below its filter length, and is inactive while lockout is on (R152, R158). -/
def InLine.Kept (x : InLine) (lockout : Bool) : Prop :=
  1 ≤ x.length ∧ x.length ≤ 32 ∧ x.count < x.length ∧ (lockout = true → x.level = false ∧ x.count = 0)

/-- Every line is kept. -/
def LinesKept (p : Panel) : Prop := ∀ i, (p.inputs.get i).Kept p.lockout

/-- A group is FIRED exactly while a member is active (R154). -/
def FiredWhileActive (p : Panel) : Prop := ∀ g, g ∈ p.fired ↔ p.anyActive g = true

theorem panelKept_iff (s : State) : PanelKept s ↔ LinesKept s.panel ∧ FiredWhileActive s.panel := Iff.rfl

theorem panelKept_congr (h : t.panel = s.panel) (hs : PanelKept s) : PanelKept t := by
  rwa [panelKept_iff, h, ← panelKept_iff]

theorem linesKept_setInput (h : LinesKept s.panel) (hx : x.Kept s.panel.lockout) : LinesKept (s.setInput i x).panel := by
  intro j
  by_cases same : j = i
  · subst same
    rw [State.inputs_setInput_self]
    exact hx
  · rw [State.inputs_setInput_ne same]
    exact h j

/-- A line that changes nothing of its group or level. -/
theorem panelKept_setInput (hs : PanelKept s) (hx : x.Kept s.panel.lockout)
    (group : x.group = (s.panel.inputs.get i).group) (level : x.level = (s.panel.inputs.get i).level) :
    PanelKept (s.setInput i x) := by
  obtain ⟨lines, fired⟩ := (panelKept_iff s).mp hs
  refine (panelKept_iff _).mpr ⟨linesKept_setInput lines hx, fun g => ?_⟩
  rw [anyActive_setInput (by simp only [InLine.Activates, group, level])]
  exact fired g

theorem LinesKept.of_inputs {p q : Panel} (h : LinesKept p) (inputs : q.inputs = p.inputs)
    (lockout : q.lockout = p.lockout) : LinesKept q := by
  intro i
  rw [inputs, lockout]
  exact h i

theorem Panel.anyActive_congr {p q : Panel} (h : q.inputs = p.inputs) (g : GroupId) : q.anyActive g = p.anyActive g := by
  simp only [Panel.anyActive, h]

/-- A group fires, of which some member is active; for every other group nothing changes (R154, R155). -/
theorem panelKept_fire (lines : LinesKept s.panel) (active : s.panel.anyActive g = true)
    (others : ∀ g', g' ≠ g → (g' ∈ s.panel.fired ↔ s.panel.anyActive g' = true)) (i : Fin 16) :
    PanelKept (s.fireGroup g i) := by
  rw [panelKept_iff, State.fireGroup_panel]
  refine ⟨lines.of_inputs rfl rfl, fun g' => ?_⟩
  rw [Panel.anyActive_congr (q := { s.panel with fired := s.panel.fired ++ [g] }) (p := s.panel) rfl]
  by_cases same : g' = g
  · subst same
    simp [active]
  · simp [same, others g' same]

/-- A group returns to ARMED, of which no member is active; for every other group nothing changes (R156). -/
theorem firedWhileActive_disarm {p : Panel} (inactive : p.anyActive g = false)
    (others : ∀ g', g' ≠ g → (g' ∈ p.fired ↔ p.anyActive g' = true)) :
    FiredWhileActive { p with fired := p.fired.filter (· != g) } := by
  intro g'
  rw [Panel.anyActive_congr (q := { p with fired := p.fired.filter (· != g) }) (p := p) rfl]
  by_cases same : g' = g
  · subst same
    simp [inactive]
  · simp [same, others g' same]

/-- A group is FIRED as it was, a member being active still. -/
theorem firedWhileActive_of_group {p : Panel} (own : g ∈ p.fired ↔ p.anyActive g = true)
    (others : ∀ g', g' ≠ g → (g' ∈ p.fired ↔ p.anyActive g' = true)) : FiredWhileActive p := by
  intro g'
  by_cases same : g' = g
  · exact same ▸ own
  · exact others g' same

/-- As a line is set, the groups that it neither leaves nor joins stay right. -/
theorem fired_setInput (fired : FiredWhileActive s.panel) {g' : GroupId}
    (before : ¬(s.panel.inputs.get i).Activates g') (after : ¬x.Activates g') :
    g' ∈ (s.setInput i x).panel.fired ↔ (s.setInput i x).panel.anyActive g' = true := by
  rw [anyActive_setInput (iff_of_false before after)]
  exact fired g'

/-- An edge is taken by the line's group, whose FIRED state was right before the edge (R154). -/
theorem panelKept_takeEdge (hs : PanelKept s) (hx : x.Kept s.panel.lockout)
    (group : x.group = (s.panel.inputs.get i).group) (edge : (s.panel.inputs.get i).level = !x.level) :
    PanelKept ((s.setInput i x).takeEdge i x.level) := by
  obtain ⟨lines, fired⟩ := (panelKept_iff s).mp hs
  have lines' := linesKept_setInput (i := i) lines hx
  have others (g' : GroupId) (h : x.group ≠ some g') :=
    fired_setInput (i := i) fired (not_activates_of_group_ne (group ▸ h)) (not_activates_of_group_ne h)
  unfold State.takeEdge
  rw [State.inputs_setInput_self]
  split
  · next loose => exact (panelKept_iff _).mpr ⟨lines', fun g' => others g' (by rw [loose]; simp)⟩
  · next g member =>
    have others' (g' : GroupId) (h : g' ≠ g) := others g' (by rw [member]; simpa using h.symm)
    cases active : x.level with
    | true =>
      have now := anyActive_setInput_self (s := s) (i := i) ⟨member, active⟩
      rw [if_pos rfl]
      split
      · next was =>
        exact (panelKept_iff _).mpr
          ⟨lines', firedWhileActive_of_group (iff_of_true ((Panel.isFired_iff _ _).mp was) now) others'⟩
      · exact panelKept_fire lines' now others' i
    | false =>
      have was : g ∈ (s.setInput i x).panel.fired :=
        (fired g).mpr (anyActive_of_activates (i := i) ⟨group ▸ member, by rw [edge, active]; rfl⟩)
      rw [if_neg Bool.false_ne_true]
      split
      · next ended =>
        obtain ⟨-, quiet⟩ := Bool.and_eq_true_iff.mp ended
        rw [panelKept_iff, State.rearmGroup_panel]
        exact ⟨lines'.of_inputs rfl rfl, firedWhileActive_disarm (by simpa using quiet) others'⟩
      · next still =>
        refine (panelKept_iff _).mpr ⟨lines', firedWhileActive_of_group (iff_of_true was ?_) others'⟩
        simpa [(Panel.isFired_iff _ _).mpr was] using still

theorem panelKept_sampleLine (hs : PanelKept s) (unlocked : s.panel.lockout = false) (i : Fin 16) (closed : Bool) :
    PanelKept (s.sampleLine i closed) := by
  obtain ⟨least, most, below, -⟩ := hs.1 i
  have kept (level : Bool) (n : Nat) (h : n < (s.panel.inputs.get i).length) :
      InLine.Kept { s.panel.inputs.get i with level := level, count := n } s.panel.lockout :=
    ⟨least, most, h, fun locked => by rw [unlocked] at locked; cases locked⟩
  unfold State.sampleLine
  dsimp only
  split_ifs with agrees edge
  · exact panelKept_setInput hs (kept _ 0 (by omega)) rfl rfl
  · exact panelKept_takeEdge (x := { s.panel.inputs.get i with level := _, count := 0 }) hs (kept _ 0 (by omega)) rfl
      (Bool.eq_not_of_ne (Ne.symm agrees))
  · refine panelKept_setInput hs (kept _ _ ?_) rfl rfl
    simp only [InLine.edges, Bool.and_eq_true, bne_iff_ne, ne_eq, decide_eq_true_eq, not_and] at edge
    have := edge agrees
    omega

/-- A line leaves its group, and a new binding starts inactive (R157). -/
theorem panelKept_bind (hs : PanelKept s) (hx : x.Kept s.panel.lockout) (quiet : x.level = false) :
    PanelKept ((s.leaveGroup i).setInput i x) := by
  obtain ⟨lines, fired⟩ := (panelKept_iff s).mp hs
  have lines' := linesKept_setInput (i := i) lines hx
  have others (g' : GroupId) (h : (s.panel.inputs.get i).group ≠ some g') :=
    fired_setInput (i := i) fired (not_activates_of_group_ne h) (not_activates_of_inactive quiet g')
  unfold State.leaveGroup
  split
  · next loose => exact (panelKept_iff _).mpr ⟨lines', fun g' => others g' (by rw [loose]; simp)⟩
  · next g member =>
    have others' (g' : GroupId) (h : g' ≠ g) := others g' (by rw [member]; simpa using h.symm)
    have left : (s.setInput i { s.panel.inputs.get i with func := .unbound }).panel.anyActive g =
        (s.setInput i x).panel.anyActive g := by
      rw [← State.setInput_setInput s i { s.panel.inputs.get i with func := .unbound } x]
      refine (anyActive_setInput (iff_of_false ?_ (not_activates_of_inactive quiet g))).symm
      rw [State.inputs_setInput_self]
      exact not_activates_of_group_ne (by simp [InLine.group])
    dsimp only
    rw [left]
    split
    · next ended =>
      obtain ⟨-, ended⟩ := Bool.and_eq_true_iff.mp ended
      have panel : (((s.setInput i { s.panel.inputs.get i with func := .unbound }).rearmGroup g).setInput i x).panel =
          { (s.setInput i x).panel with fired := (s.setInput i x).panel.fired.filter (· != g) } := by
        rw [State.setInput, State.rearmGroup_panel]
        simp [State.setInput]
      rw [panelKept_iff, panel]
      exact ⟨lines'.of_inputs rfl rfl, firedWhileActive_disarm (by simpa using ended) others'⟩
    · next stays =>
      rw [State.setInput_setInput]
      refine (panelKept_iff _).mpr ⟨lines', firedWhileActive_of_group ?_ others'⟩
      rw [show (s.setInput i x).panel.fired = s.panel.fired from rfl]
      cases any : (s.setInput i x).panel.anyActive g with
      | false => simpa [any, Panel.isFired_iff] using stays
      | true =>
        obtain ⟨j, hj⟩ := (Panel.anyActive_iff _ _).mp any
        have other : j ≠ i := by
          rintro rfl
          rw [State.inputs_setInput_self] at hj
          exact not_activates_of_inactive quiet g hj
        rw [State.inputs_setInput_ne other] at hj
        exact iff_of_true ((fired g).mpr (anyActive_of_activates hj)) rfl

/-- Disarming each of some groups leaves the others FIRED (R158). -/
theorem foldl_rearmGroup_panel (gs : List GroupId) (s : State) :
    (gs.foldl State.rearmGroup s).panel = { s.panel with fired := s.panel.fired.filter fun g => !gs.contains g } := by
  induction gs generalizing s with
  | nil => simp
  | cons g gs ih =>
    have both : (s.panel.fired.filter (· != g)).filter (fun x => !gs.contains x) =
        s.panel.fired.filter fun x => !(g :: gs).contains x := by
      rw [List.filter_filter]
      refine List.filter_congr fun x _ => ?_
      rw [List.contains_cons, Bool.not_or, Bool.and_comm]
      rfl
    rw [List.foldl_cons, ih, State.rearmGroup_panel, ← both]

/-- What lockout does to the panel: no filter counts, no line is active, no group is FIRED (R158). -/
theorem State.lockOn_panel {s : State} (h : s.panel.lockout = false) : s.lockOn.panel =
    { s.panel with
      inputs := s.panel.inputs.map fun x => { x with level := false, count := 0 }, fired := [], lockout := true } := by
  unfold State.lockOn
  rw [h]
  dsimp only
  rw [if_neg Bool.false_ne_true, foldl_rearmGroup_panel]
  simp

theorem panelKept_lockOn (hs : PanelKept s) : PanelKept s.lockOn := by
  cases h : s.panel.lockout with
  | true =>
    unfold State.lockOn
    rwa [if_pos h]
  | false =>
    rw [panelKept_iff, State.lockOn_panel h]
    refine ⟨fun i => ?_, fun g => iff_of_false (List.not_mem_nil) ?_⟩
    · obtain ⟨least, most, -, -⟩ := hs.1 i
      simp only [Vector.get_eq_getElem, Vector.getElem_map]
      exact ⟨least, most, least, fun _ => ⟨rfl, rfl⟩⟩
    · rw [Panel.anyActive_iff]
      rintro ⟨i, active⟩
      simp only [Vector.get_eq_getElem, Vector.getElem_map] at active
      exact not_activates_of_inactive rfl g active

theorem panelKept_lockOff (hs : PanelKept s) : PanelKept s.lockOff :=
  ⟨fun i => ⟨(hs.1 i).1, (hs.1 i).2.1, (hs.1 i).2.2.1, fun locked => nomatch locked⟩, hs.2⟩

theorem panelKept_message {h : Handler} (hh : h ∈ panelMessages) (hs : PanelKept s) (p : Port) (body : List Byte) :
    PanelKept (h s p body).1 := by
  simp only [panelMessages, List.mem_cons, List.not_mem_nil, or_false] at hh
  rcases hh with rfl | rfl | rfl | rfl
  · unfold lockMessage
    split
    · split
      · exact hs
      · next on _ =>
        cases on
        · exact panelKept_lockOff hs
        · exact panelKept_lockOn hs
    · exact hs
  · unfold bindInMessage
    split
    · split
      · refine panelKept_bind hs ⟨?_, ?_, ?_, fun _ => ⟨rfl, rfl⟩⟩ rfl <;> dsimp only <;> omega
      · exact hs
    · exact hs
  · unfold bindOutMessage
    split
    · split
      · split
        · exact hs
        · exact hs
      · exact hs
    · exact hs
  · unfold driveMessage
    split
    · split
      · exact hs
      · exact hs
    · exact hs

theorem panelKept_reset : PanelKept State.reset := by
  refine (panelKept_iff _).mpr ⟨fun i => ?_, fun g => iff_of_false List.not_mem_nil ?_⟩
  · simp [State.reset, Panel.reset, Vector.get_eq_getElem, InLine.Kept, InLine.reset]
  · rw [Panel.anyActive_iff]
    rintro ⟨i, active⟩
    simp [State.reset, Panel.reset, Vector.get_eq_getElem, InLine.Activates, InLine.reset] at active

theorem panel_keptByMessages : KeptByMessages PanelKept where
  line h := panelKept_congr h.lineKeepsToKeeps.panel
  clearCounters _ := id
  timing l target dump lead := panelKept_congr (State.moves_setTiming _ l target dump lead).toKeeps.panel
  configure l fmt n force := panelKept_congr (State.configure_panel _ l fmt n force)
  release l := panelKept_congr (State.release_panel _ l)
  linkLanes f l := panelKept_congr (State.moves_linkLanes _ f l).toKeeps.panel
  unlink f := panelKept_congr (State.moves_unlink _ f).toKeeps.panel
  enter l cause := panelKept_congr (State.enter_panel _ l cause)
  exitGentle l cause := panelKept_congr (State.exitGentle_panel _ l cause)
  exitNow l := panelKept_congr (State.moves_exitNow _ l).toKeeps.panel
  addSource _ _ := panelKept_congr (State.addSource_panel _ _ _)
  removeSource _ _ := panelKept_congr (State.removeSource_panel _ _ _)
  settle hb := panelKept_congr (State.moves_settleAction hb).toKeeps.panel
  clearCounts _ _ := id
  inject {s} p body hs := by
    obtain same | ⟨k, arm, eq⟩ := injectMessage_state s p body
    · rwa [same]
    · exact panelKept_congr (by rw [eq]) hs
  unit {s h} p body hh hs := by
    obtain ⟨x, eq⟩ := unitMessage_link hh s p body
    exact panelKept_congr (by rw [eq]) hs
  panel p body hh hs := panelKept_message hh hs p body
  sample i closed unlocked hs := panelKept_sampleLine hs unlocked i closed

theorem panel_keptByTakes : KeptByTakes PanelKept where
  line h := panelKept_congr h.lineKeepsToKeeps.panel
  begun {_ _ _ _} _ {_} hs _ _ _ _ := hs
  filled hs _ _ _ := hs

theorem panel_keptByOuter : KeptByOuter PanelKept where
  post _ _ := id
  link _ := id
  tick _ := id
  poweredUp _ _ := panelKept_reset
  restarted _ _ := panelKept_reset

end

end Sys2Proof.Machine

section
open Sys2Proof Sys2Proof.Machine

/-- Settles O29: only samples, bindings and lockout change a line, and each of them sees to the groups that the line is in. -/
theorem panelStaysConsistent : Obligations.PanelStaysConsistent :=
  fun _ _ _ hs h => panel_keptByMessages.exec_of_takes panel_keptByTakes (panel_keptByMessages.executor fun _ => id)
    (fun outer _ ht => panel_keptByOuter.exec hs outer ht) hs h

end

namespace Sys2Proof.Machine

section
variable {P : State → Prop} {s t : State} {l k : Lane} {b c : LaneBody} {p q : Port}

/-! ### Properties of the Control Link Unit -/

/-- A property of the Control Link Unit alone that postings and the unit's messages keep. -/
structure KeptByPosts (P : State → Prop) : Prop where
  congr : ∀ {s t : State}, t.link = s.link → P s → P t
  post : ∀ {s : State} (x : Option Lane) (d : Detail), P s → P (s.post x d)
  unit : ∀ {s : State} {h : Handler} (p : Port) (body : List Byte), h ∈ unitMessages → P s → P (h s p body).1

theorem KeptByPosts.moves (kept : KeptByPosts P) (h : s.Moves LaneBody.Keeps t) (hs : P s) : P t := by
  refine h.keeps (fun u v m hu => ?_) hs
  cases m with
  | post x d => exact kept.post x d hu
  | count | write | body => exact kept.congr (s := u) rfl hu
  | read k e =>
    unfold State.readErr
    dsimp only
    split
    · exact kept.congr (s := u) rfl hu
    · exact kept.post _ _ (kept.congr (s := u) rfl hu)

theorem KeptByPosts.step (kept : KeptByPosts P) (h : s.Moves LaneBody.Step t) (hs : P s) : P t := kept.moves h.toKeeps hs

theorem KeptByPosts.actions (kept : KeptByPosts P) : KeptByActions P where
  line h := kept.moves h.lineKeepsToKeeps
  enter l cause := kept.step (State.moves_enter _ l cause)
  exitGentle l cause := kept.step (State.moves_exitGentle _ l cause)
  addSource _ _ := kept.step (State.moves_addSource _ _ _)
  removeSource _ _ := kept.step (State.moves_removeSource _ _ _)
  panel _ := kept.congr rfl

theorem KeptByPosts.configure (kept : KeptByPosts P) (hs : P s) (l : Lane) (fmt : Format) (n : Nat) (force : Bool) :
    P (s.configure l fmt n force).1 := by
  unfold State.configure
  dsimp only
  split
  · split
    · exact hs
    · exact kept.post _ _ (kept.congr (s := s) rfl hs)
  · split_ifs
    · exact hs
    · exact hs
    · exact hs
    · exact kept.post _ _ (kept.congr (s := s) rfl hs)

theorem KeptByPosts.release (kept : KeptByPosts P) (hs : P s) (l : Lane) : P (s.release l).1 := by
  unfold State.release
  split
  · exact hs
  · have parted := kept.step ((State.Moves.refl s).foldl (s.followersOf l) State.moves_makeIndependent) hs
    exact kept.post _ _ (kept.congr (s := (s.followersOf l).foldl State.makeIndependent s) rfl parted)

theorem KeptByPosts.messages (kept : KeptByPosts P) : KeptByMessages P where
  line h := kept.moves h.lineKeepsToKeeps
  clearCounters _ := kept.congr rfl
  timing l target dump lead := kept.step (State.moves_setTiming _ l target dump lead)
  configure l fmt n force hs := kept.configure hs l fmt n force
  release l hs := kept.release hs l
  linkLanes f l := kept.step (State.moves_linkLanes _ f l)
  unlink f := kept.step (State.moves_unlink _ f)
  enter l cause := kept.step (State.moves_enter _ l cause)
  exitGentle l cause := kept.step (State.moves_exitGentle _ l cause)
  exitNow l := kept.step (State.moves_exitNow _ l)
  addSource _ _ := kept.step (State.moves_addSource _ _ _)
  removeSource _ _ := kept.step (State.moves_removeSource _ _ _)
  settle hb := kept.step (State.moves_settleAction hb)
  clearCounts _ _ := kept.congr rfl
  inject {s} p body hs := by
    obtain same | ⟨k, arm, eq⟩ := injectMessage_state s p body
    · rwa [same]
    · exact kept.congr (by rw [eq]) hs
  unit p body hh hs := kept.unit p body hh hs
  panel p body hh hs := kept.actions.panelMessage hh hs p body
  sample i closed _ hs := kept.actions.sampleLine hs i closed

theorem KeptByPosts.takes (kept : KeptByPosts P) : KeptByTakes P where
  line h := kept.moves h.lineKeepsToKeeps
  begun {s _ _ _} _ {_} hs _ _ _ _ := kept.congr (s := s) rfl hs
  filled {s _ _} hs _ _ _ := kept.congr (s := s) rfl hs

/-! ### What a message does to the queues and to the ports -/

/-- A port's queues. -/
def PortState.queues (x : PortState) : List Request × List Reply := (x.inbound, x.replies)

@[simp] theorem PortState.queues_post (x : PortState) (l : Option Lane) (d : Detail) : (x.post l d).queues = x.queues := by
  unfold PortState.post
  split <;> rfl

/-- The ports' queues are those given. -/
def State.Queued (s : State) (x : Port → List Request × List Reply) : Prop := ∀ p, (s.link.ports.get p).queues = x p

theorem State.queued_modPort {x : Port → List Request × List Reply} (hs : s.Queued x) (p : Port)
    {f : PortState → PortState} (same : ∀ y, (f y).queues = y.queues) : (s.modPort p f).Queued x := by
  intro q
  rw [← hs q]
  show ((s.link.ports.set p _).get q).queues = _
  rw [PerPort.get_set]
  split
  · next h => rw [h, same]
  · rfl

theorem State.queued_postOn {x : Port → List Request × List Reply} (hs : s.Queued x) (p : Port) (l : Option Lane)
    (d : Detail) : (s.postOn p l d).Queued x :=
  State.queued_modPort (s := s) hs p (f := fun y => y.post l d) fun y => y.queues_post l d

/-- No message touches a queue: its request is taken before, and its reply joins after (R170). -/
theorem queues_keptByPosts (x : Port → List Request × List Reply) : KeptByPosts fun s => s.Queued x where
  congr {s t} h hs p := by rw [h]; exact hs p
  post l d hs := State.queued_postOn (State.queued_postOn hs .a l d) .b l d
  unit {s h} p body hh hs := by
    simp only [unitMessages, List.mem_cons, List.not_mem_nil, or_false] at hh
    rcases hh with rfl | rfl | rfl | rfl | rfl
    · unfold unitStatusMessage
      split
      · split
        · exact hs
        · next clear _ =>
          cases clear
          · exact hs
          · exact State.queued_modPort (State.queued_modPort hs .a (f := PortState.clearCounters) fun _ => rfl) .b
              (f := PortState.clearCounters) fun _ => rfl
      · exact hs
    · have parted := State.queued_modPort (State.queued_modPort hs .a (f := fun y => { y with rx := .hunting }) fun _ => rfl)
        .b (f := fun y => { y with rx := .hunting }) fun _ => rfl
      exact parted
    · unfold takeControlMessage
      split_ifs
      · exact hs
      · exact hs
      · exact State.queued_postOn (s := { s with link := { s.link with controller := p } }) hs _ _ _
    · unfold setTakeoverMessage
      split
      · split <;> exact hs
      · exact hs
    · unfold setNoticesMessage
      split
      · split
        · exact State.queued_modPort hs _ fun _ => rfl
        · exact hs
      · exact hs

/-! ### Pending sets -/

/-- Two entries of one key are of one kind and one lane. -/
theorem NoticeEntry.key_eq_iff {e y : NoticeEntry} : e.key = y.key ↔
    kindNo e.detail = kindNo y.detail ∧ (laneByte e.lane).toNat = (laneByte y.lane).toNat := by
  have := toNat_laneByte_le e.lane
  have := toNat_laneByte_le y.lane
  unfold NoticeEntry.key
  omega

/-- An entry that takes another's detail keeps their key. -/
theorem NoticeEntry.key_replaced {e y : NoticeEntry} (h : y.key = e.key) (n : Nat) :
    ({ y with detail := e.detail, count := n } : NoticeEntry).key = e.key := by
  obtain ⟨-, lane⟩ := NoticeEntry.key_eq_iff.mp h
  exact NoticeEntry.key_eq_iff.mpr ⟨rfl, lane⟩

theorem key_of_mem_insertNotice {e y : NoticeEntry} {m : List NoticeEntry} (h : y ∈ insertNotice e m) :
    y.key = e.key ∨ y ∈ m := by
  rcases mem_insertNotice h with rfl | h | ⟨z, hz, same, rfl⟩
  · exact .inl rfl
  · exact .inr h
  · exact .inl (NoticeEntry.key_replaced same _)

/-- A posting keeps the pending set in order, with one entry for each kind and lane (R175). -/
theorem insertNotice_pairwise (e : NoticeEntry) {m : List NoticeEntry} (h : m.Pairwise fun x y => x.key < y.key) :
    (insertNotice e m).Pairwise fun x y => x.key < y.key := by
  induction m with
  | nil => exact List.pairwise_singleton _ _
  | cons y m ih =>
    obtain ⟨first, rest⟩ := List.pairwise_cons.mp h
    unfold insertNotice
    split_ifs with before same
    · refine List.pairwise_cons.mpr ⟨fun z hz => ?_, h⟩
      rcases List.mem_cons.mp hz with rfl | hz
      · exact before
      · exact before.trans (first z hz)
    · refine List.pairwise_cons.mpr ⟨fun z hz => ?_, rest⟩
      rw [NoticeEntry.key_replaced same.symm, same]
      exact first z hz
    · refine List.pairwise_cons.mpr ⟨fun z hz => ?_, ih rest⟩
      rcases key_of_mem_insertNotice hz with same' | hz
      · omega
      · exact first z hz

/-! ### The ports' invariant (O30) -/

theorem PortState.kept_post {x : PortState} (hx : x.Kept) (l : Option Lane) (d : Detail) : (x.post l d).Kept := by
  unfold PortState.post
  split
  · next keeps =>
    obtain ⟨rx, inbound, replies, gap, crc, frame, overflow, order, entries⟩ := hx
    refine ⟨rx, inbound, replies, gap, crc, frame, overflow, insertNotice_pairwise _ order, fun e he => ?_⟩
    rcases mem_insertNotice he with rfl | old | ⟨y, hy, -, rfl⟩
    · exact ⟨le_refl 1, by dsimp only; omega, keeps⟩
    · exact entries e old
    · obtain ⟨least, most, -⟩ := entries y hy
      exact ⟨least.trans (le_satAdd _ _ _), satAdd_le most, keeps⟩
  · exact hx

theorem PortState.kept_hunting {x : PortState} (hx : x.Kept) : ({ x with rx := .hunting } : PortState).Kept :=
  ⟨trivial, hx.2⟩

theorem PortState.kept_clearCounters {x : PortState} (hx : x.Kept) : x.clearCounters.Kept := by
  obtain ⟨rx, inbound, replies, -, -, -, -, pending⟩ := hx
  exact ⟨rx, inbound, replies, Nat.zero_le _, Nat.zero_le _, Nat.zero_le _, Nat.zero_le _, pending⟩

theorem PortState.kept_setKinds {x : PortState} (hx : x.Kept) (ks : Vector KindSetting 13) : (x.setKinds ks).Kept := by
  obtain ⟨rx, inbound, replies, gap, crc, frame, overflow, order, entries⟩ := hx
  refine ⟨rx, inbound, replies, gap, crc, frame, overflow, order.sublist List.filter_sublist, fun e he => ?_⟩
  obtain ⟨old, keeps⟩ := List.mem_filter.mp he
  obtain ⟨least, most, -⟩ := entries e old
  exact ⟨least, most, keeps⟩

theorem PortState.kept_frameErr {x : PortState} (hx : x.Kept) {rx : Receiver} (h : ReceiverKept rx) :
    (x.frameErr rx).Kept := by
  obtain ⟨-, inbound, replies, gap, crc, frame, overflow, pending⟩ := hx
  exact ⟨h, inbound, replies, gap, crc, satAdd_le frame, overflow, pending⟩

theorem PortState.kept_rx {x : PortState} (hx : x.Kept) {rx : Receiver} (h : ReceiverKept rx) :
    ({ x with rx := rx } : PortState).Kept := ⟨h, hx.2⟩

theorem PortState.kept_offer {x : PortState} (hx : x.Kept) (r : Request) : (x.offer r).Kept := by
  obtain ⟨rx, inbound, replies, gap, crc, frame, overflow, pending⟩ := hx
  unfold PortState.offer
  split
  · next room =>
    refine ⟨rx, ?_, replies, gap, crc, frame, overflow, pending⟩
    simpa using room
  · exact ⟨rx, inbound, replies, gap, crc, frame, satAdd_le overflow, pending⟩

theorem PortState.kept_checkFrame {x : PortState} (hx : x.Kept) (len : Byte) (got : List Byte) (c1 c2 : Byte) :
    (x.checkFrame len got c1 c2).Kept := by
  unfold PortState.checkFrame
  split
  · split
    · exact PortState.kept_offer hx _
    · exact hx
  · obtain ⟨rx, inbound, replies, gap, crc, rest⟩ := hx
    exact ⟨rx, inbound, replies, gap, satAdd_le crc, rest⟩

theorem PortState.kept_receive {x : PortState} (hx : x.Kept) (b : Byte) (stopError : Bool) :
    (x.receive b stopError).Kept := by
  have rx : ReceiverKept x.rx := hx.1
  unfold PortState.receive
  cases h : x.rx with
  | hunting =>
    dsimp only
    split
    · exact PortState.kept_rx hx trivial
    · exact hx
  | length =>
    dsimp only
    split_ifs with stop legal start
    · exact PortState.kept_frameErr hx trivial
    · exact PortState.kept_rx hx ⟨legal.1, legal.2, by simp only [List.length_nil]; omega⟩
    · exact PortState.kept_frameErr hx trivial
    · exact PortState.kept_frameErr hx trivial
  | content len got =>
    obtain ⟨least, most, short⟩ := h ▸ rx
    dsimp only
    split_ifs with stop last
    · exact PortState.kept_frameErr hx trivial
    · exact PortState.kept_rx hx ⟨least, most, by simp only [List.length_append, List.length_singleton]; omega⟩
    · exact PortState.kept_rx hx ⟨least, most, by simp only [List.length_append, List.length_singleton]; omega⟩
  | check len got first =>
    obtain ⟨least, most, whole⟩ := h ▸ rx
    cases first with
    | none =>
      dsimp only
      split
      · exact PortState.kept_frameErr hx trivial
      · exact PortState.kept_rx hx ⟨least, most, whole⟩
    | some c1 =>
      dsimp only
      split
      · exact PortState.kept_frameErr hx trivial
      · exact PortState.kept_checkFrame (PortState.kept_hunting hx) _ _ _ _

/-- One port changed. -/
theorem portsKept_modPort (hs : PortsKept s) {f : PortState → PortState} (kept : (f (s.link.ports.get p)).Kept)
    (rx : s.link.restartPending.isSome = true → (f (s.link.ports.get p)).rx = .hunting) : PortsKept (s.modPort p f) := by
  intro q
  show ((s.link.ports.set p _).get q).Kept ∧ (_ → ((s.link.ports.set p _).get q).rx = .hunting)
  rw [PerPort.get_set]
  split
  · exact ⟨kept, rx⟩
  · exact hs q

/-- One port changed but for its receiver. -/
theorem portsKept_modPort_rx (hs : PortsKept s) {f : PortState → PortState} (kept : (f (s.link.ports.get p)).Kept)
    (same : (f (s.link.ports.get p)).rx = (s.link.ports.get p).rx) : PortsKept (s.modPort p f) :=
  portsKept_modPort hs kept fun pending => same.trans ((hs p).2 pending)

theorem portsKept_postOn (hs : PortsKept s) (p : Port) (l : Option Lane) (d : Detail) : PortsKept (s.postOn p l d) := by
  refine portsKept_modPort_rx (s := s) hs (f := fun y => y.post l d) (PortState.kept_post (hs p).1 l d) ?_
  unfold PortState.post
  split <;> rfl

/-- A port that hunts may restart the part (R174). -/
theorem portsKept_restart (hs : PortsKept s) (p : Port) (body : List Byte) : PortsKept (restartMessage s p body).1 := by
  have hunting (q : Port) : ((restartMessage s p body).1.link.ports.get q) =
      { s.link.ports.get q with rx := .hunting } := by
    cases q <;> rfl
  intro q
  rw [hunting]
  exact ⟨PortState.kept_hunting (hs q).1, fun _ => rfl⟩

theorem ports_keptByPosts : KeptByPosts PortsKept where
  congr {s t} h hs p := by rw [h]; exact hs p
  post l d hs := portsKept_postOn (portsKept_postOn hs .a l d) .b l d
  unit {s h} p body hh hs := by
    simp only [unitMessages, List.mem_cons, List.not_mem_nil, or_false] at hh
    rcases hh with rfl | rfl | rfl | rfl | rfl
    · unfold unitStatusMessage
      split
      · split
        · exact hs
        · next clear _ =>
          cases clear
          · exact hs
          · have cleared := portsKept_modPort_rx hs (p := .a) (PortState.kept_clearCounters (hs .a).1) rfl
            exact portsKept_modPort_rx cleared (p := .b) (PortState.kept_clearCounters (cleared .b).1) rfl
      · exact hs
    · exact portsKept_restart hs p body
    · unfold takeControlMessage
      split_ifs
      · exact hs
      · exact hs
      · exact portsKept_postOn (s := { s with link := { s.link with controller := p } }) hs _ _ _
    · unfold setTakeoverMessage
      split
      · split <;> exact hs
      · exact hs
    · unfold setNoticesMessage
      split
      · split
        · exact portsKept_modPort_rx hs (PortState.kept_setKinds (hs _).1 _) rfl
        · exact hs
      · exact hs

theorem portsKept_takeRequest (hs : PortsKept s) (p : Port) : PortsKept (s.takeRequest p) := by
  have taken : PortsKept (s.modPort p fun q => { q with inbound := q.inbound.tail }) := by
    obtain ⟨rx, inbound, rest⟩ := (hs p).1
    refine portsKept_modPort_rx hs ⟨rx, ?_, rest⟩ rfl
    rw [List.length_tail]
    omega
  exact taken

theorem portsKept_reply (hs : PortsKept s) {r : Request} {a : Answer} (room : (s.link.ports.get p).replies.length < 4) :
    PortsKept (s.reply p r a) := by
  obtain ⟨rx, inbound, -, rest⟩ := (hs p).1
  refine portsKept_modPort_rx hs ⟨rx, inbound, ?_, rest⟩ rfl
  rw [List.length_append, List.length_singleton]
  omega

/-- The port whose request is next has room for its reply (R169). -/
theorem nextRequest_room {r : Request} (h : s.nextRequest = some (p, r)) : (s.link.ports.get p).replies.length < 4 := by
  obtain ⟨q, hq, head⟩ := Option.bind_eq_some_iff.mp h
  obtain ⟨x, -, same⟩ := Option.map_eq_some_iff.mp head
  cases same
  have eligible : (s.link.ports.get p).eligible = true := by
    unfold LinkUnit.nextPort at hq
    cases ha : (s.link.ports.get .a).eligible <;> cases hb : (s.link.ports.get .b).eligible <;>
      simp only [ha, hb] at hq <;> split at hq <;> cases p <;> simp_all
  simpa using (Bool.and_eq_true_iff.mp eligible).2

theorem portsKept_executor : KeptByExecutor PortsKept := by
  intro s isRow lengthOk permitted h hh hs
  unfold State.execute
  split
  · exact hs
  · next p r next =>
    have taken := portsKept_takeRequest hs p
    have queues : (s.takeRequest p).Queued fun q => ((s.takeRequest p).link.ports.get q).queues := fun _ => rfl
    have same : ((s.takeRequest p).link.ports.get p).replies = (s.link.ports.get p).replies := by cases p <;> rfl
    have room := same ▸ nextRequest_room next
    dsimp only
    split_ifs
    · exact hs
    · exact portsKept_reply taken room
    · exact portsKept_reply taken room
    · refine portsKept_reply (ports_keptByPosts.messages.message hh taken p r.body) ?_
      have left := (queues_keptByPosts _).messages.message hh queues p r.body p
      rwa [show (((h (s.takeRequest p) p r.body).1.link.ports.get p)).replies = _ from congrArg Prod.snd left]

theorem PortState.kept_reset : PortState.reset.Kept :=
  ⟨trivial, by decide, by decide, by decide, by decide, by decide, by decide, List.Pairwise.nil, fun _ h => nomatch h⟩

theorem PortState.kept_restarted {x : PortState} (hx : x.Kept) : x.restarted.Kept := by
  obtain ⟨-, -, -, gap, crc, frame, overflow, -⟩ := hx
  exact ⟨trivial, Nat.zero_le _, Nat.zero_le _, gap, crc, frame, overflow, List.Pairwise.nil, fun _ h => nomatch h⟩

theorem portsKept_reset (ratesel : Bool) (p : Port) :
    ((LinkUnit.reset ratesel).ports.get p).Kept ∧
      ((LinkUnit.reset ratesel).restartPending.isSome = true → ((LinkUnit.reset ratesel).ports.get p).rx = .hunting) := by
  cases p <;> exact ⟨PortState.kept_reset, fun _ => rfl⟩

theorem portsKept_outer (hs : PortsKept s) {c : Instr} (outer : isOuter c = true) (h : Machine.exec c s = .next t) :
    PortsKept t := by
  cases c with
  | powerUp ratesel | resetN ratesel =>
    cases h
    exact portsKept_reset ratesel
  | restartEffect =>
    cases h
    split
    · exact hs
    · split
      · exact hs
      · intro q
        cases q
        · exact ⟨PortState.kept_restarted (hs .a).1, fun _ => rfl⟩
        · exact ⟨PortState.kept_restarted (hs .b).1, fun _ => rfl⟩
  | receiveByte p b e =>
    cases h
    split
    · exact hs
    · next free => exact portsKept_modPort hs (PortState.kept_receive (hs p).1 b e) fun pending => absurd pending free
  | gapExpiry p =>
    cases h
    split
    · exact hs
    · obtain ⟨-, inbound, replies, gap, rest⟩ := (hs p).1
      exact portsKept_modPort hs ⟨trivial, inbound, replies, satAdd_le gap, rest⟩ fun _ => rfl
  | referencePulse interval =>
    cases h
    split
    · split
      · exact hs
      · exact ports_keptByPosts.post _ _ (ports_keptByPosts.congr (s := s) rfl hs)
    · split
      · split
        · exact ports_keptByPosts.post _ _ (ports_keptByPosts.congr (s := s) rfl hs)
        · exact hs
      · exact hs
  | referenceLost =>
    cases h
    split
    · exact ports_keptByPosts.post _ _ (ports_keptByPosts.congr (s := s) rfl hs)
    · exact hs
  | transmitReply p =>
    cases h
    split
    · exact hs
    · next r rest replies =>
      obtain ⟨rx, inbound, most, counts⟩ := (hs p).1
      refine portsKept_modPort_rx hs ⟨rx, inbound, ?_, counts⟩ rfl
      rw [replies, List.length_cons] at most
      exact (Nat.le_succ _).trans most
  | transmitNotice p =>
    cases h
    dsimp only
    split
    · exact hs
    · split
      · exact hs
      · obtain ⟨rx, inbound, replies, gap, crc, frame, overflow, order, entries⟩ := (hs p).1
        exact portsKept_modPort_rx hs ⟨rx, inbound, replies, gap, crc, frame, overflow,
          order.sublist List.filter_sublist, fun e he => entries e (List.mem_of_mem_filter he)⟩ rfl
  | _ => cases outer

end

end Sys2Proof.Machine

section
open Sys2Proof Sys2Proof.Machine

/-- Settles O30: a posting keeps a pending set in order, a request is taken only where its reply has room, and the queues are
otherwise touched by the receiver and the transmitter alone. -/
theorem portsStayBounded : Obligations.PortsStayBounded :=
  fun _ _ _ hs h => ports_keptByPosts.messages.exec_of_takes ports_keptByPosts.takes portsKept_executor
    (fun outer _ ht => portsKept_outer hs outer ht) hs h

end

namespace Sys2Proof.Machine

section
variable {s t : State} {l k : Lane} {b c : LaneBody}

/-! ### What lanes an update leaves alone -/

theorem State.body?_setBody (s : State) (l k : Lane) (x : Option LaneBody) :
    (s.setBody l x).body? k = if k = l then x else s.body? k := by
  split
  · next same => subst same; exact State.body?_setBody_self _ _ _
  · next other => exact State.body?_setBody_ne _ _ other

theorem State.body?_modBody (s : State) (l k : Lane) (f : LaneBody → LaneBody) :
    (s.modBody l f).body? k = if k = l then (s.body? l).map f else s.body? k := State.body?_setBody _ _ _ _

theorem State.body?_setSlot (s : State) (l k : Lane) (x : LaneSlot) :
    ({ s with lanes := s.lanes.set l x } : State).body? k = if k = l then x.body else s.body? k := by
  simp only [State.body?, PerLane.get_set]
  split <;> rfl

/-- A state whose lanes alone differ, and whose counters do not, from another. -/
def State.BodiesFrom (t s : State) : Prop :=
  (∀ k, (t.lanes.get k).counters = (s.lanes.get k).counters) ∧ t = { s with lanes := t.lanes, link := t.link }

theorem State.bodiesFrom_refl (s : State) : s.BodiesFrom s := ⟨fun _ => rfl, rfl⟩

theorem State.BodiesFrom.trans {u : State} (h : u.BodiesFrom t) (h' : t.BodiesFrom s) : u.BodiesFrom s := by
  obtain ⟨counters, rest⟩ := h
  obtain ⟨counters', rest'⟩ := h'
  refine ⟨fun k => (counters k).trans (counters' k), ?_⟩
  rw [rest, rest']

theorem State.bodiesFrom_post (s : State) (x : Option Lane) (d : Detail) : (s.post x d).BodiesFrom s :=
  ⟨fun _ => rfl, rfl⟩

theorem State.bodiesFrom_setBody (s : State) (l : Lane) (x : Option LaneBody) : (s.setBody l x).BodiesFrom s :=
  ⟨fun k => State.counters_setBody s k l x, rfl⟩

theorem State.bodiesFrom_modBody (s : State) (l : Lane) (f : LaneBody → LaneBody) : (s.modBody l f).BodiesFrom s :=
  State.bodiesFrom_setBody s l _

theorem State.bodiesFrom_foldl {op : State → Lane → State} (h : ∀ (u : State) f, (op u f).BodiesFrom u) (xs : List Lane)
    (s : State) : (xs.foldl op s).BodiesFrom s :=
  foldl_invariant op (fun u => u.BodiesFrom s) (fun u f hu => (h u f).trans hu) xs s s.bodiesFrom_refl

/-! ### A lane's change of state (O40) -/

/-- A follower's body as it takes its leader's new state (R25, R128). -/
def LaneBody.follow (m : Mode) (b : LaneBody) : LaneBody :=
  if m = .pass then { b with mode := m, gov := b.gov.entersPass } else { b with mode := m }

/-- A follower's body as its leader goes from one state to another (R25). -/
def LaneBody.follows (was m : Mode) (b : LaneBody) : LaneBody :=
  if (was == .drain && m == .pass && b.pendingCount != 0) = true then b else b.follow m

theorem State.body?_putMode (s : State) (l k : Lane) (m : Mode) (cause : Cause) :
    (s.putMode l m cause).body? k = if k = l then (s.body? l).map fun b => { b with mode := m } else s.body? k :=
  State.body?_modBody s l k _

theorem State.body?_followMode (s : State) (f k : Lane) (m : Mode) :
    (s.followMode f m).body? k = if k = f then (s.body? f).map (·.follow m) else s.body? k := by
  unfold State.followMode LaneBody.follow
  by_cases pass : m = .pass
  · simp only [if_pos pass, State.body?_modBody, State.body?_putMode, if_true, Option.map_map]
    split <;> rfl
  · simp only [if_neg pass, State.body?_putMode]

theorem State.bodiesFrom_putMode (s : State) (l : Lane) (m : Mode) (cause : Cause) :
    (s.putMode l m cause).BodiesFrom s := (State.bodiesFrom_post _ _ _).trans (State.bodiesFrom_modBody _ _ _)

theorem State.bodiesFrom_followMode (s : State) (f : Lane) (m : Mode) : (s.followMode f m).BodiesFrom s := by
  unfold State.followMode
  dsimp only
  split
  · exact (State.bodiesFrom_modBody _ _ _).trans (State.bodiesFrom_putMode _ _ _ _)
  · exact State.bodiesFrom_putMode _ _ _ _

/-- One follower's part in a change of state. -/
def State.followChange (was m : Mode) (t : State) (f : Lane) : State :=
  match t.body? f with
  | none => t
  | some b => if (was == .drain && m == .pass && b.pendingCount != 0) = true then t else t.followMode f m

theorem State.changeMode_eq (hb : s.body? l = some b) (m : Mode) (cause : Cause) :
    s.changeMode l m cause = (s.followersOf l).foldl (State.followChange b.mode m) (s.putMode l m cause) := by
  have mode : (s.mode? l == some .drain) = (b.mode == .drain) := by
    rw [State.mode?, hb, Option.map_some]
    rfl
  unfold State.changeMode
  dsimp only
  rw [mode]
  rfl

theorem State.body?_followChange (was m : Mode) (s : State) (f k : Lane) : (State.followChange was m s f).body? k =
    if k = f then (s.body? f).map (·.follows was m) else s.body? k := by
  unfold State.followChange LaneBody.follows
  cases hf : s.body? f with
  | none =>
    dsimp only
    split
    · next same => rw [same, hf]; rfl
    · rfl
  | some b =>
    dsimp only
    rw [Option.map_some]
    split
    · split
      · next same => rw [same, hf]
      · rfl
    · rw [State.body?_followMode, hf]
      rfl

theorem State.bodiesFrom_followChange (was m : Mode) (s : State) (f : Lane) :
    (State.followChange was m s f).BodiesFrom s := by
  unfold State.followChange
  split
  · exact s.bodiesFrom_refl
  · split
    · exact s.bodiesFrom_refl
    · exact State.bodiesFrom_followMode s f m

/-- A change of state reaches the lane and its followers, and no other lane (R15, R25). -/
theorem State.body?_changeMode (hb : s.body? l = some b) (free : b.link = none) (m : Mode) (cause : Cause) (k : Lane) :
    (s.changeMode l m cause).body? k = if k = l then some { b with mode := m }
      else if k ∈ s.followersOf l then (s.body? k).map (·.follows b.mode m) else s.body? k := by
  have self := not_mem_followersOf_self hb free
  rw [State.changeMode_eq hb, body?_foldl_lanes _ (fun _ => LaneBody.follows b.mode m) (followersOf_nodup s l)]
  · rw [State.body?_putMode, hb]
    by_cases same : k = l
    · rw [if_pos same, if_pos same, if_neg (same ▸ self)]
      rfl
    · rw [if_neg same, if_neg same]
  · intro u f k hf hu
    rw [State.body?_followChange, hu]

theorem State.bodiesFrom_changeMode (hb : s.body? l = some b) (m : Mode) (cause : Cause) :
    (s.changeMode l m cause).BodiesFrom s := by
  rw [State.changeMode_eq hb]
  exact (State.bodiesFrom_foldl (State.bodiesFrom_followChange b.mode m) _ _).trans (State.bodiesFrom_putMode _ _ _ _)

/-- Operations on lanes that each post one notice, or none, of the lane's own body leave the link as those postings do. -/
theorem link_foldl_lanes (op : State → Lane → State) (g : Lane → LaneBody → LaneBody)
    (note : Lane → LaneBody → List (Option Lane × Detail)) {xs : List Lane} (hd : xs.Nodup) (s : State)
    (body : ∀ u f k, f ∈ xs → u.body? f = s.body? f →
      (op u f).body? k = if k = f then (s.body? f).map (g f) else u.body? k)
    (link : ∀ u f b, f ∈ xs → u.body? f = s.body? f → s.body? f = some b → (op u f).link = (u.postAll (note f b)).link)
    (configured : ∀ f ∈ xs, s.body? f ≠ none) :
    (xs.foldl op s).link = (s.postAll (xs.flatMap fun f => ((s.body? f).map (note f)).getD [])).link := by
  suffices H : ∀ (ys : List Lane) (u : State), (∀ y ∈ ys, y ∈ xs) → ys.Nodup → (∀ y ∈ ys, u.body? y = s.body? y) →
      (ys.foldl op u).link = (u.postAll (ys.flatMap fun f => ((s.body? f).map (note f)).getD [])).link from
    H xs s (fun _ h => h) hd fun _ _ => rfl
  intro ys
  induction ys with
  | nil => intros; rfl
  | cons y ys ih =>
    intro u within nodup same
    obtain ⟨fresh, nodup⟩ := List.nodup_cons.mp nodup
    have hy := within y (by simp)
    have own := same y (by simp)
    obtain ⟨b, hb⟩ := Option.ne_none_iff_exists'.mp (configured y hy)
    rw [List.foldl_cons, ih (op u y) (fun z hz => within z (by simp [hz])) nodup, List.flatMap_cons, State.postAll_append,
      hb, Option.map_some, Option.getD_some]
    · exact State.postAll_link_congr (link u y b hy own hb) _
    · intro z hz
      have other : z ≠ y := fun e => fresh (e ▸ hz)
      rw [body u y z hy own, if_neg other, same z (by simp [hz])]

theorem State.postAll_cons (s : State) (x : Option Lane × Detail) (xs : List (Option Lane × Detail)) :
    s.postAll (x :: xs) = (s.post x.1 x.2).postAll xs := rfl

theorem configured_of_follows {f : Lane} (h : f ∈ s.followersOf l) : s.body? f ≠ none := by
  obtain ⟨b, -, hb, -, -⟩ := mem_followersOf.mp h
  rw [hb]
  exact Option.some_ne_none b

theorem State.followMode_link (s : State) (f : Lane) (m : Mode) :
    (s.followMode f m).link = (s.post (some f) (.laneState (some m) .leader)).link := by
  unfold State.followMode
  dsimp only
  split
  · exact State.post_link_congr rfl _ _
  · exact State.post_link_congr rfl _ _

/-- The notice of a follower that takes its leader's new state (R25). -/
def LaneBody.followNote (was m : Mode) (f : Lane) (b : LaneBody) : List (Option Lane × Detail) :=
  if (was == .drain && m == .pass && b.pendingCount != 0) = true then [] else [(some f, .laneState (some m) .leader)]

theorem State.followChange_link {f : Lane} (hb : s.body? f = some b) (was m : Mode) :
    (State.followChange was m s f).link = (s.postAll (b.followNote was m f)).link := by
  unfold State.followChange LaneBody.followNote
  rw [hb]
  dsimp only
  split
  · rfl
  · exact State.followMode_link s f m

/-- A list with an entry for each lane that a test does not stay. -/
theorem flatMap_unless {α : Type} (xs : List Lane) (p : Lane → Bool) (g : Lane → α) (note : Lane → List α)
    (h : ∀ f ∈ xs, note f = if p f then [] else [g f]) : xs.flatMap note = (xs.filter fun f => !p f).map g := by
  induction xs with
  | nil => rfl
  | cons x xs ih =>
    rw [List.flatMap_cons, ih fun f hf => h f (by simp [hf]), h x (by simp), List.filter_cons]
    cases p x <;> rfl

theorem State.changeMode_link (hb : s.body? l = some b) (free : b.link = none) (m : Mode) (cause : Cause) :
    (s.changeMode l m cause).link = (s.postAll ((some l, .laneState (some m) cause) ::
      ((s.followersOf l).filter fun f => !(s.body? f).any fun b' =>
        b.mode == .drain && m == .pass && b'.pendingCount != 0).map fun f => (some f, .laneState (some m) .leader))).link := by
  have self := not_mem_followersOf_self hb free
  have same (f : Lane) (hf : f ∈ s.followersOf l) : (s.putMode l m cause).body? f = s.body? f := by
    rw [State.body?_putMode, if_neg (by rintro rfl; exact self hf)]
  rw [State.changeMode_eq hb, link_foldl_lanes _ (fun _ => LaneBody.follows b.mode m) (LaneBody.followNote b.mode m)
    (followersOf_nodup s l), State.postAll_cons]
  · rw [flatMap_unless _ (fun f => (s.body? f).any fun b' => b.mode == .drain && m == .pass && b'.pendingCount != 0)
      (fun f => (some f, .laneState (some m) .leader))]
    · exact State.postAll_link_congr
        (State.post_link_congr (s := s.modBody l _) (t := s) rfl (some l) (.laneState (some m) cause)) _
    · intro f hf
      rw [same f hf]
      obtain ⟨b', hb'⟩ := Option.ne_none_iff_exists'.mp (configured_of_follows hf)
      rw [hb']
      rfl
  · intro u f k _ hu
    rw [State.body?_followChange, hu]
  · intro u f b' _ hu hb'
    exact State.followChange_link (hu.trans hb') b.mode m
  · intro f hf
    rw [same f hf]
    exact configured_of_follows hf

/-! ### Covers (O42) -/

theorem CoverSet.isEmpty_iff (x : CoverSet) : x.isEmpty = true ↔ x = .empty := by
  obtain ⟨control, panel, watch, leader⟩ := x
  simp [CoverSet.isEmpty, CoverSet.empty, and_assoc]

theorem CoverSet.put_true_ne_empty (x : CoverSet) (src : CoverSource) : (x.put src true).isEmpty = false := by
  cases src <;> simp [CoverSet.put, CoverSet.isEmpty]

/-- The newest n entries of a list changed, or all of them. -/
theorem take_append_map_drop {α : Type} (xs : List α) (n : Nat) (f : α → α) :
    xs.take (xs.length - min n xs.length) ++ (xs.drop (xs.length - min n xs.length)).map f =
      xs.mapIdx fun i x => if xs.length ≤ i + n then f x else x := by
  refine List.ext_getElem (by simp) fun i _ held => ?_
  rw [List.length_mapIdx] at held
  rw [List.getElem_mapIdx]
  by_cases older : i < xs.length - min n xs.length
  · rw [List.getElem_append_left (by rw [List.length_take]; omega), List.getElem_take, if_neg (by omega)]
  · rw [List.getElem_append_right (by rw [List.length_take]; omega), List.getElem_map, List.getElem_drop,
      if_pos (by omega)]
    congr 2
    rw [List.length_take]
    omega

theorem LaneBody.onset_eq_flagged (b : LaneBody) : b.onset = flagged b := by
  have newest := take_append_map_drop b.dl.records b.timing.lead.frames fun r => { r with covered := true }
  unfold LaneBody.onset flagged LaneBody.h
  dsimp only
  rw [newest]

theorem LaneBody.cover_eq (b : LaneBody) (src : CoverSource) : b.cover src = coveredBy src b := by
  unfold LaneBody.cover coveredBy
  simp only [LaneBody.onset_eq_flagged, CoverSet.isEmpty_iff]

theorem LaneBody.uncover_eq (b : LaneBody) (src : CoverSource) : b.uncover src = uncoveredBy src b := rfl

theorem LaneBody.cover_sources (b : LaneBody) (src : CoverSource) :
    (b.cover src).dl.sources = b.dl.sources.put src true := by
  unfold LaneBody.cover
  dsimp only
  split <;> rfl

/-- Changes of each of a leader's followers reach those lanes alone. -/
theorem State.body?_modFollowers (hb : s.body? l = some b) (free : b.link = none) (own all : LaneBody → LaneBody)
    (k : Lane) : ((s.followersOf l).foldl (fun u f => u.modBody f all) (s.modBody l own)).body? k =
      if k = l then some (own b) else if k ∈ s.followersOf l then (s.body? k).map all else s.body? k := by
  have self := not_mem_followersOf_self hb free
  rw [body?_foldl_lanes _ (fun _ => all) (followersOf_nodup s l), State.body?_modBody, hb]
  · by_cases same : k = l
    · rw [if_pos same, if_pos same, if_neg (same ▸ self)]
      rfl
    · rw [if_neg same, if_neg same]
  · intro u f k _ hu
    rw [State.body?_modBody, hu]

theorem State.covering_of_body (hb : s.body? l = some b) : s.covering l = !b.dl.sources.isEmpty := by
  simp [State.covering, hb]

/-- A source added reaches the lane, and its followers where the set was empty (R76, R146). -/
theorem State.body?_addSource (hb : s.body? l = some b) (free : b.link = none) (src : CoverSource) (k : Lane) :
    (s.addSource l src).body? k = if k = l then some (b.cover src)
      else if k ∈ s.followersOf l ∧ b.dl.sources = .empty then (s.body? k).map (·.cover .leader) else s.body? k := by
  have after : (s.modBody l (·.cover src)).covering l = true := by
    rw [State.covering_of_body (b := b.cover src) (by rw [State.body?_modBody_self, hb]; rfl), LaneBody.cover_sources,
      CoverSet.put_true_ne_empty]
    rfl
  unfold State.addSource
  dsimp only
  rw [after, State.covering_of_body hb]
  by_cases empty : b.dl.sources = .empty
  · rw [if_pos (by simp [(CoverSet.isEmpty_iff _).mpr empty]), State.body?_modFollowers hb free]
    simp only [empty, and_true]
  · have nonempty : b.dl.sources.isEmpty = false := by
      rwa [← Bool.not_eq_true, CoverSet.isEmpty_iff]
    rw [if_neg (by simp [nonempty]), State.body?_modBody, hb]
    simp only [empty, and_false, if_false, Option.map_some]

/-- A source removed reaches the lane, and its followers where the set becomes empty (R76, R146). -/
theorem State.body?_removeSource (hb : s.body? l = some b) (free : b.link = none) (src : CoverSource) (k : Lane) :
    (s.removeSource l src).body? k = if k = l then some (b.uncover src)
      else if k ∈ s.followersOf l ∧ b.dl.sources ≠ .empty ∧ (b.uncover src).dl.sources = .empty then
        (s.body? k).map (·.uncover .leader) else s.body? k := by
  have after : (s.modBody l (·.uncover src)).covering l = !(b.uncover src).dl.sources.isEmpty :=
    State.covering_of_body (by rw [State.body?_modBody_self, hb]; rfl)
  unfold State.removeSource
  dsimp only
  rw [after, State.covering_of_body hb]
  by_cases empties : b.dl.sources ≠ .empty ∧ (b.uncover src).dl.sources = .empty
  · have nonempty : b.dl.sources.isEmpty = false := by
      rw [← Bool.not_eq_true, CoverSet.isEmpty_iff]
      exact empties.1
    rw [if_pos (by simp [nonempty, (CoverSet.isEmpty_iff _).mpr empties.2]), State.body?_modFollowers hb free]
    simp only [eq_true empties, and_true]
  · rw [if_neg, State.body?_modBody, hb]
    · simp only [empties, and_false, if_false, Option.map_some]
    · simpa [← CoverSet.isEmpty_iff] using empties

theorem State.bodiesFrom_addSource (s : State) (l : Lane) (src : CoverSource) : (s.addSource l src).BodiesFrom s := by
  unfold State.addSource
  dsimp only
  split
  · exact (State.bodiesFrom_foldl (fun u f => State.bodiesFrom_modBody u f _) _ _).trans (State.bodiesFrom_modBody _ _ _)
  · exact State.bodiesFrom_modBody _ _ _

theorem State.bodiesFrom_removeSource (s : State) (l : Lane) (src : CoverSource) :
    (s.removeSource l src).BodiesFrom s := by
  unfold State.removeSource
  dsimp only
  split
  · exact (State.bodiesFrom_foldl (fun u f => State.bodiesFrom_modBody u f _) _ _).trans (State.bodiesFrom_modBody _ _ _)
  · exact State.bodiesFrom_modBody _ _ _

theorem State.addSource_link (s : State) (l : Lane) (src : CoverSource) : (s.addSource l src).link = s.link := by
  unfold State.addSource
  dsimp only
  split
  · rw [foldl_keeps _ State.link (fun _ _ => State.modBody_link _ _ _), State.modBody_link]
  · rfl

theorem State.removeSource_link (s : State) (l : Lane) (src : CoverSource) : (s.removeSource l src).link = s.link := by
  unfold State.removeSource
  dsimp only
  split
  · rw [foldl_keeps _ State.link (fun _ _ => State.modBody_link _ _ _), State.modBody_link]
  · rfl

theorem State.BodiesFrom.eq_lanes (h : t.BodiesFrom s) (link : t.link = s.link) : t = { s with lanes := t.lanes } := by
  obtain ⟨-, rest⟩ := h
  rw [link] at rest
  exact rest

theorem onIndependent_of_free {x : LaneBody → State × Answer} (hb : s.body? l = some b) (free : b.link = none) :
    onIndependent s l x = x b := by
  simp [onIndependent, onConfigured, hb, free]

/-- LANE_COVER on a lane that is no follower (R144). -/
theorem coverMessage_applies (hb : s.body? l = some b) (free : b.link = none) (p : Port) (on : Bool) :
    coverMessage s p [laneByte (some l), boolByte on] =
      (if on then s.addSource l .control else s.removeSource l .control,
        .ok [coverByte (b.dl.sources.put .control on)]) := by
  simp only [coverMessage, withLane, laneOf_laneByte, boolOf_boolByte, State.requestCover,
    onIndependent_of_free hb free]
  cases on
  · simp only [Bool.false_eq_true, if_false, State.body?_removeSource hb free, if_true]
    rfl
  · simp only [if_true, State.body?_addSource hb free, Option.map_some, LaneBody.cover_sources, Option.getD_some]

theorem coverByte_put_control (x : CoverSet) (on : Bool) : coverByte (x.put .control on) = BitVec.ofNat 8
    ((if on then 1 else 0) + (if x.panel then 2 else 0) + (if x.watch then 4 else 0) + (if x.leader then 8 else 0)) := by
  have bit (y : Bool) (n : Nat) : y.toNat * n = if y then n else 0 := by cases y <;> simp
  rw [coverByte, bitsByte_four]
  simp only [CoverSet.put, bit]

theorem hasForm_of_body {r : Request} {code other : Byte} {i : Nat} (h : r.code = code) (form : r.body[i]? ≠ some other) :
    hasForm code other i r = true := by
  simp [hasForm, h, form]

/-- LANE_COVER's two rows (R144). -/
theorem exec_laneCover {p : Port} {r : Request} {on : Bool} (hb : s.body? l = some b) (free : b.link = none)
    (asks : Asks s p r 0x2D [laneByte (some l), boolByte on]) :
    exec (if on then .laneCoverOn else .laneCoverOff) s = .next (served s p r
      (fun u => if on then u.addSource l .control else u.removeSource l .control) .ok
      [coverByte (b.dl.sources.put .control on)]) := by
  have handled := coverMessage_applies (s := s.takeRequest p) hb free p on
  obtain ⟨serves, controls, code, body⟩ := id asks
  cases on with
  | false =>
    refine congrArg Host.Outcome.next (State.execute_asks asks (hasForm_of_body code ?_) rfl handled)
    rw [body]
    show some (boolByte false) ≠ some 1
    decide
  | true =>
    refine congrArg Host.Outcome.next (State.execute_asks asks (hasForm_of_body code ?_) rfl handled)
    rw [body]
    show some (boolByte true) ≠ some 0
    decide

end

end Sys2Proof.Machine

section
open Sys2Proof Sys2Proof.Machine

/-- Settles O40, from what a change of state does to each lane, to the counters and to the ports. -/
theorem stateChangesReachFollowers : Obligations.StateChangesReachFollowers := by
  intro s l b m cause hb free
  obtain ⟨counters, rest⟩ := State.bodiesFrom_changeMode hb m cause
  refine ⟨?_, fun k other => ?_, counters, rest, State.changeMode_link hb free m cause⟩
  · rw [State.body?_changeMode hb free, if_pos rfl]
  · rw [State.body?_changeMode hb free, if_neg other]
    rfl

/-- Settles O42: an onset is the flagging of the newest records, and a source reaches the followers where the set was empty
or becomes empty. -/
theorem coversFlagFramesAndReachFollowers : Obligations.CoversFlagFramesAndReachFollowers := by
  intro s l b hb free
  refine ⟨fun src => ⟨⟨?_, fun k other => ?_, (State.bodiesFrom_addSource s l src).1, ?_⟩,
    ?_, fun k other => ?_, (State.bodiesFrom_removeSource s l src).1, ?_⟩, fun p r on asks => ?_⟩
  · rw [State.body?_addSource hb free, if_pos rfl, LaneBody.cover_eq]
  · rw [State.body?_addSource hb free, if_neg other, funext fun c => LaneBody.cover_eq c .leader]
  · exact (State.bodiesFrom_addSource s l src).eq_lanes (State.addSource_link s l src)
  · rw [State.body?_removeSource hb free, if_pos rfl, LaneBody.uncover_eq]
  · rw [State.body?_removeSource hb free, if_neg other]
    rfl
  · exact (State.bodiesFrom_removeSource s l src).eq_lanes (State.removeSource_link s l src)
  · rw [exec_laneCover hb free asks, coverByte_put_control]

end

namespace Sys2Proof.Machine

section
variable {s t u : State} {l f k : Lane} {b c : LaneBody} {x y z : LinkSide}

/-! ### The link relation on what it looks at (O28) -/

/-- What the link relation looks at of a lane of a state, absent in OFF. -/
def State.side? (s : State) (l : Lane) : Option LinkSide := (s.body? l).map LaneBody.linkSide

/-- A follower and its leader, told from what the relation looks at (R23, R25, R124, R146). -/
def LinkSide.Follows (leader x : LinkSide) (pending : Int) : Prop :=
  leader.link = none ∧ leader.rate = x.rate ∧
  (x.mode = leader.mode ∨ (x.mode = .drain ∧ leader.mode = .pass ∧ pending ≠ 0)) ∧
  -8 ≤ pending ∧ pending ≤ 8 ∧ x.sources.leader = !leader.sources.isEmpty

/-- A lane that is no follower (R9, R26, R61, R145). -/
def LinkSide.Alone (x : LinkSide) : Prop :=
  x.stray = none ∧ x.sources.leader = false ∧ (x.mode = .build ∨ x.mode = .onTarget ∨ x.mode = .trim → x.hasTarget = true)

/-- The link relation of one lane among all. -/
def LinkSide.Kept (sides : Lane → Option LinkSide) (l : Lane) (x : LinkSide) : Prop :=
  match x.link with
  | some (leader, pending) => leader ≠ l ∧ ∃ y, sides leader = some y ∧ y.Follows x pending
  | none => x.Alone

theorem LinkSide.kept_of_alone {sides : Lane → Option LinkSide} (h : x.link = none) (alone : x.Alone) :
    x.Kept sides l := by
  unfold LinkSide.Kept
  rw [h]
  exact alone

theorem LinkSide.kept_of_follows {sides : Lane → Option LinkSide} {n : Int} (h : x.link = some (k, n)) (other : k ≠ l)
    (hy : sides k = some y) (follows : y.Follows x n) : x.Kept sides l := by
  unfold LinkSide.Kept
  rw [h]
  exact ⟨other, y, hy, follows⟩

theorem LinkSide.Kept.alone {sides : Lane → Option LinkSide} (h : x.Kept sides l) (free : x.link = none) : x.Alone := by
  unfold LinkSide.Kept at h
  rwa [free] at h

theorem LinkSide.Kept.follows {sides : Lane → Option LinkSide} {n : Int} (h : x.Kept sides l)
    (link : x.link = some (k, n)) : k ≠ l ∧ ∃ y, sides k = some y ∧ y.Follows x n := by
  unfold LinkSide.Kept at h
  rwa [link] at h

theorem linksKept_iff (s : State) : LinksKept s ↔ ∀ l x, s.side? l = some x → x.Kept s.side? l := by
  simp only [LinksKept, State.side?, Option.map_eq_some_iff]
  refine forall_congr' fun l => ?_
  constructor
  · rintro h x ⟨b, hb, rfl⟩
    have kept := h b hb
    cases link : b.link with
    | none =>
      simp only [link] at kept
      refine LinkSide.kept_of_alone (by simp [LaneBody.linkSide, link]) ?_
      simpa [LinkSide.Alone, LaneBody.linkSide, link] using kept
    | some k =>
      simp only [link] at kept
      obtain ⟨other, leader, hleader, alone, rest⟩ := kept
      refine LinkSide.kept_of_follows (by simp only [LaneBody.linkSide, link]; rfl) other
        (Option.map_eq_some_iff.mpr ⟨leader, hleader, rfl⟩) ⟨by simp [LaneBody.linkSide, alone], rest⟩
  · intro h b hb
    have kept := h _ ⟨b, hb, rfl⟩
    cases link : b.link with
    | none =>
      have alone := kept.alone (by simp [LaneBody.linkSide, link])
      simpa [LinkSide.Alone, LaneBody.linkSide, link] using alone
    | some k =>
      obtain ⟨other, side, hside, alone, rest⟩ := kept.follows (k := k.leader) (n := k.pending)
        (by simp only [LaneBody.linkSide, link]; rfl)
      obtain ⟨leader, hleader, rfl⟩ := Option.map_eq_some_iff.mp hside
      exact ⟨other, leader, hleader, by simpa [LaneBody.linkSide] using alone, rest⟩

theorem linksKept_congr (h : ∀ k, t.side? k = s.side? k) (hs : LinksKept s) : LinksKept t := by
  rw [linksKept_iff] at hs ⊢
  rwa [funext h]

/-- A lane names another as its leader. -/
def LinkSide.Names (x : LinkSide) (l : Lane) : Prop := ∃ n, x.link = some (l, n)

/-- The leader of a follower is no follower, so that nobody follows a follower (R23). -/
theorem not_names_of_follower (hs : LinksKept s) (hx : s.side? f = some x) (link : x.link ≠ none) (hz : s.side? k = some z) :
    ¬z.Names f := by
  rintro ⟨n, hn⟩
  rw [linksKept_iff] at hs
  obtain ⟨-, y, hy, alone, -⟩ := (hs k z hz).follows hn
  rw [hx] at hy
  cases hy
  exact link alone

/-- Nobody follows an OFF lane. -/
theorem not_names_of_off (hs : LinksKept s) (off : s.side? f = none) (hz : s.side? k = some z) : ¬z.Names f := by
  rintro ⟨n, hn⟩
  rw [linksKept_iff] at hs
  obtain ⟨-, y, hy, -⟩ := (hs k z hz).follows hn
  rw [off] at hy
  cases hy

/-- A lane that nobody follows may change as it likes, if it is well kept among the others. -/
theorem linksKept_own (hs : LinksKept s) (nobody : ∀ k z, s.side? k = some z → ¬z.Names f)
    (others : ∀ k, k ≠ f → t.side? k = s.side? k) (own : ∀ x, t.side? f = some x → ¬x.Names f ∧ x.Kept s.side? f) :
    LinksKept t := by
  rw [linksKept_iff] at hs ⊢
  have transfer (k : Lane) (z : LinkSide) (kept : z.Kept s.side? k) (free : ¬z.Names f) : z.Kept t.side? k := by
    cases link : z.link with
    | none => exact LinkSide.kept_of_alone link (kept.alone link)
    | some p =>
      obtain ⟨leader, n⟩ := p
      obtain ⟨other, y, hy, follows⟩ := kept.follows link
      have away : leader ≠ f := by
        rintro rfl
        exact free ⟨n, link⟩
      exact LinkSide.kept_of_follows link other ((others leader away).trans hy) follows
  intro k z hz
  by_cases same : k = f
  · subst same
    obtain ⟨free, kept⟩ := own z hz
    exact transfer k z kept free
  · rw [others k same] at hz
    exact transfer k z (hs k z hz) (nobody k z hz)

/-- A lane that is no follower changes, and each of its followers with it. -/
theorem linksKept_lead (hs : LinksKept s) (hx : s.side? l = some x)
    (others : ∀ k z, k ≠ l → s.side? k = some z → ¬z.Names l → t.side? k = some z)
    (off : ∀ k, s.side? k = none → t.side? k = none)
    (own : t.side? l = some y) (stillFree : y.link = none) (alone : y.Alone)
    (followers : ∀ k z n, k ≠ l → s.side? k = some z → z.link = some (l, n) → x.Follows z n →
      ∃ z' n', t.side? k = some z' ∧ z'.link = some (l, n') ∧ y.Follows z' n') : LinksKept t := by
  rw [linksKept_iff] at hs ⊢
  intro k z' hz'
  by_cases same : k = l
  · subst same
    rw [own] at hz'
    cases hz'
    exact LinkSide.kept_of_alone stillFree alone
  · cases hz : s.side? k with
    | none =>
      rw [off k hz] at hz'
      cases hz'
    | some z =>
      have kept := hs k z hz
      by_cases names : z.Names l
      · obtain ⟨n, link⟩ := names
        obtain ⟨-, leader, hleader, follows⟩ := kept.follows link
        rw [hx] at hleader
        cases hleader
        obtain ⟨w, n', hw, link', follows'⟩ := followers k z n same hz link follows
        rw [hz'] at hw
        cases hw
        exact LinkSide.kept_of_follows link' (Ne.symm same) own follows'
      · rw [others k z same hz names] at hz'
        cases hz'
        cases link : z'.link with
        | none => exact LinkSide.kept_of_alone link (kept.alone link)
        | some p =>
          obtain ⟨leader, n⟩ := p
          obtain ⟨other, w, hw, follows⟩ := kept.follows link
          have away : leader ≠ l := by
            rintro rfl
            exact names ⟨n, link⟩
          have stays := others leader w away hw fun ⟨m, hm⟩ => by rw [follows.1] at hm; cases hm
          exact LinkSide.kept_of_follows link other stays follows

/-! ### Operations -/

theorem State.side?_of_body (hb : s.body? l = some b) : s.side? l = some b.linkSide := by
  rw [State.side?, hb, Option.map_some]

theorem linkSide_link_none (free : b.link = none) : b.linkSide.link = none := by simp [LaneBody.linkSide, free]

theorem linkSide_link_some {link : FollowerLink} (h : b.link = some link) :
    b.linkSide.link = some (link.leader, link.pending) := by simp [LaneBody.linkSide, h]

theorem linksKept_moves (h : s.Moves LaneBody.LineKeeps t) (hs : LinksKept s) : LinksKept t := by
  refine h.keeps (fun u v m hu => ?_) hs
  refine linksKept_congr (s := u) (fun k => ?_) hu
  cases m with
  | post | write => rfl
  | count => simp only [State.side?, State.body?_count]
  | read j e => rw [State.side?, State.body?, State.readErr_lanes]; rfl
  | body l b c freed hb keeps =>
    rw [State.side?, State.body?_freeing]
    split
    · next same => rw [same, State.side?_of_body hb, Option.map_some, keeps.linkSide]
    · rfl

theorem mem_followersOf_side : f ∈ s.followersOf l ↔ ∃ x, s.side? f = some x ∧ x.Names l := by
  rw [mem_followersOf]
  constructor
  · rintro ⟨b, link, hb, hlink, rfl⟩
    exact ⟨b.linkSide, State.side?_of_body hb, link.pending, linkSide_link_some hlink⟩
  · rintro ⟨x, hx, n, hn⟩
    obtain ⟨b, hb, rfl⟩ := Option.map_eq_some_iff.mp hx
    cases link : b.link with
    | none => rw [linkSide_link_none link] at hn; cases hn
    | some k =>
      rw [linkSide_link_some link] at hn
      cases hn
      exact ⟨b, k, hb, link, rfl⟩

/-- A lane that is no follower changes, and its followers, told of their bodies. -/
theorem linksKept_leadBodies (hs : LinksKept s) (hb : s.body? l = some b) (free : b.link = none) {all : LaneBody → LaneBody}
    (bodies : ∀ k, t.body? k = if k = l then some c else if k ∈ s.followersOf l then (s.body? k).map all else s.body? k)
    (stillFree : c.link = none) (alone : b.linkSide.Alone → c.linkSide.Alone)
    (followers : ∀ d link, d.link = some link → b.linkSide.Follows d.linkSide link.pending →
      ∃ n, (all d).linkSide.link = some (link.leader, n) ∧ c.linkSide.Follows (all d).linkSide n) : LinksKept t := by
  have side (k : Lane) (hk : k ≠ l) : t.side? k =
      if k ∈ s.followersOf l then (s.body? k).map fun d => (all d).linkSide else s.side? k := by
    rw [State.side?, bodies, if_neg hk]
    split
    · rw [Option.map_map]; rfl
    · rfl
  refine linksKept_lead hs (State.side?_of_body hb) (y := c.linkSide) ?_ ?_ ?_
    (linkSide_link_none stillFree)
    (alone (((linksKept_iff s).mp hs l _ (State.side?_of_body hb)).alone (linkSide_link_none free))) ?_
  · intro k z other hz names
    rw [side k other, if_neg, hz]
    rw [mem_followersOf_side]
    rintro ⟨x, hx, named⟩
    rw [hz] at hx
    cases hx
    exact names named
  · intro k off
    have other : k ≠ l := by
      rintro rfl
      rw [State.side?_of_body hb] at off
      cases off
    have none : s.body? k = none := Option.map_eq_none_iff.mp off
    rw [side k other, none, off]
    simp
  · rw [State.side?, bodies, if_pos rfl, Option.map_some]
  · intro k z n other hz link follows
    obtain ⟨d, hd, rfl⟩ := Option.map_eq_some_iff.mp hz
    cases hlink : d.link with
    | none => rw [linkSide_link_none hlink] at link; cases link
    | some fl =>
      rw [linkSide_link_some hlink] at link
      cases link
      obtain ⟨n', link', follows'⟩ := followers d fl hlink follows
      refine ⟨_, n', ?_, link', follows'⟩
      rw [side k other, if_pos (mem_followersOf.mpr ⟨d, fl, hd, hlink, rfl⟩), hd, Option.map_some]

theorem linkSide_follow (m : Mode) (d : LaneBody) : (d.follow m).linkSide = { d.linkSide with mode := m } := by
  unfold LaneBody.follow
  split <;> rfl

/-- A change of state keeps the link relation, if the lane has a target where the state calls for one (R9, R25). -/
theorem linksKept_changeMode (hs : LinksKept s) (hb : s.body? l = some b) (free : b.link = none) {m : Mode}
    (target : m = .build ∨ m = .onTarget ∨ m = .trim → b.timing.target.isSome = true) (cause : Cause) :
    LinksKept (s.changeMode l m cause) := by
  refine linksKept_leadBodies hs hb free (State.body?_changeMode hb free m cause) free ?_ ?_
  · rintro ⟨stray, leader, -⟩
    exact ⟨stray, leader, target⟩
  · rintro d link hlink ⟨alone, rate, mode, least, most, sources⟩
    refine ⟨link.pending, ?_, ?_⟩
    · unfold LaneBody.follows
      split
      · exact linkSide_link_some hlink
      · rw [linkSide_follow]
        exact linkSide_link_some hlink
    · unfold LaneBody.follows
      split
      · next stays =>
        simp only [Bool.and_eq_true, beq_iff_eq, bne_iff_ne, ne_eq] at stays
        obtain ⟨⟨drain, pass⟩, owes⟩ := stays
        refine ⟨alone, rate, .inr ⟨?_, pass, ?_⟩, least, most, sources⟩
        · rcases mode with mode | ⟨mode, -, -⟩
          · exact mode.trans drain
          · exact mode
        · simpa [LaneBody.pendingCount, hlink] using owes
      · rw [linkSide_follow]
        exact ⟨alone, rate, .inl rfl, least, most, sources⟩

theorem linkSide_cover (d : LaneBody) (src : CoverSource) :
    (d.cover src).linkSide = { d.linkSide with sources := d.dl.sources.put src true } := by
  unfold LaneBody.cover
  dsimp only
  split <;> rfl

theorem linkSide_uncover (d : LaneBody) (src : CoverSource) :
    (d.uncover src).linkSide = { d.linkSide with sources := d.dl.sources.put src false } := rfl

theorem CoverSet.put_leader_of_ne {src : CoverSource} (h : src ≠ .leader) (x : CoverSet) (on : Bool) :
    (x.put src on).leader = x.leader := by
  cases src with
  | leader => exact absurd rfl h
  | control | panel | watch => rfl

theorem CoverSet.put_leader (x : CoverSet) (on : Bool) : (x.put .leader on).leader = on := rfl

theorem State.body?_of_leaderOf?_none (free : s.leaderOf? l = none) : s.body? l = none ∨
    ∃ b, s.body? l = some b ∧ b.link = none := by
  cases hb : s.body? l with
  | none => exact .inl rfl
  | some b =>
    refine .inr ⟨b, rfl, ?_⟩
    simpa [State.leaderOf?, hb] using free

/-- A source added to a lane that is no follower (R146). -/
theorem linksKept_addSource (hs : LinksKept s) (free : s.leaderOf? l = none) {src : CoverSource} (other : src ≠ .leader) :
    LinksKept (s.addSource l src) := by
  rcases State.body?_of_leaderOf?_none free with off | ⟨b, hb, free⟩
  · have same : s.addSource l src = s := by
      simp [State.addSource, State.covering, State.modBody_of_none s l _ off, off]
    rwa [same]
  · have alone (h : b.linkSide.Alone) : (b.cover src).linkSide.Alone := by
      rw [linkSide_cover]
      exact ⟨h.1, (CoverSet.put_leader_of_ne other _ _).trans h.2.1, h.2.2⟩
    have stillFree : (b.cover src).link = none := by
      unfold LaneBody.cover
      dsimp only
      split <;> exact free
    have set : (b.cover src).linkSide.sources.isEmpty = false := by
      rw [linkSide_cover]
      exact CoverSet.put_true_ne_empty _ _
    by_cases empty : b.dl.sources = .empty
    · refine linksKept_leadBodies hs hb free (all := (·.cover .leader)) (fun k => ?_) stillFree alone ?_
      · rw [State.body?_addSource hb free]
        simp only [empty, and_true]
      · rintro d link hlink ⟨alone, rate, mode, least, most, -⟩
        refine ⟨link.pending, by rw [linkSide_cover]; exact linkSide_link_some hlink, ?_⟩
        rw [linkSide_cover d, LinkSide.Follows, set]
        rw [linkSide_cover]
        exact ⟨alone, rate, mode, least, most, rfl⟩
    · refine linksKept_leadBodies hs hb free (all := id) (fun k => ?_) stillFree alone ?_
      · rw [State.body?_addSource hb free]
        simp only [empty, and_false, if_false, Option.map_id, id_eq, ite_self]
      · rintro d link hlink ⟨alone, rate, mode, least, most, sources⟩
        have was : b.linkSide.sources.isEmpty = false := by
          rw [← Bool.not_eq_true, CoverSet.isEmpty_iff]
          exact empty
        refine ⟨link.pending, linkSide_link_some hlink, ?_⟩
        rw [LinkSide.Follows, set, ← was, linkSide_cover]
        exact ⟨alone, rate, mode, least, most, sources⟩

/-- A source taken from a lane that is no follower (R146). -/
theorem linksKept_removeSource (hs : LinksKept s) (free : s.leaderOf? l = none) {src : CoverSource} (other : src ≠ .leader) :
    LinksKept (s.removeSource l src) := by
  rcases State.body?_of_leaderOf?_none free with off | ⟨b, hb, free⟩
  · have same : s.removeSource l src = s := by
      simp [State.removeSource, State.covering, State.modBody_of_none s l _ off, off]
    rwa [same]
  · have alone (h : b.linkSide.Alone) : (b.uncover src).linkSide.Alone :=
      ⟨h.1, (CoverSet.put_leader_of_ne other _ _).trans h.2.1, h.2.2⟩
    by_cases empties : b.dl.sources ≠ .empty ∧ (b.uncover src).dl.sources = .empty
    · refine linksKept_leadBodies hs hb free (all := (·.uncover .leader)) (c := b.uncover src) (fun k => ?_) free alone ?_
      · rw [State.body?_removeSource hb free]
        simp only [eq_true empties, and_true]
      · rintro d link hlink ⟨alone, rate, mode, least, most, -⟩
        have empty : (b.uncover src).linkSide.sources.isEmpty = true := (CoverSet.isEmpty_iff _).mpr empties.2
        refine ⟨link.pending, linkSide_link_some (b := d.uncover .leader) hlink, ?_⟩
        rw [LinkSide.Follows, empty]
        exact ⟨alone, rate, mode, least, most, rfl⟩
    · refine linksKept_leadBodies hs hb free (all := id) (c := b.uncover src) (fun k => ?_) free alone ?_
      · rw [State.body?_removeSource hb free]
        simp only [empties, and_false, if_false, Option.map_id, id_eq, ite_self]
      · rintro d link hlink ⟨alone, rate, mode, least, most, sources⟩
        have same : (b.uncover src).linkSide.sources.isEmpty = b.linkSide.sources.isEmpty := by
          rw [Bool.eq_iff_iff, CoverSet.isEmpty_iff, CoverSet.isEmpty_iff]
          refine ⟨fun gone => ?_, fun was => ?_⟩
          · by_contra set
            exact empties ⟨set, gone⟩
          · show b.dl.sources.put src false = _
            rw [show b.dl.sources = .empty from was]
            cases src <;> rfl
        refine ⟨link.pending, linkSide_link_some hlink, ?_⟩
        rw [LinkSide.Follows, same]
        exact ⟨alone, rate, mode, least, most, sources⟩

/-! ### A follower's own changes -/

/-- A follower changes, well kept by its leader. -/
theorem linksKept_follower (hs : LinksKept s) {leader : Lane} {n : Int} (hx : s.side? f = some x)
    (link : x.link = some (leader, n)) (others : ∀ k, k ≠ f → t.side? k = s.side? k)
    (own : ∀ w, t.side? f = some w → ∃ n', w.link = some (leader, n') ∧
      ∀ y, s.side? leader = some y → y.Follows x n → y.Follows w n') : LinksKept t := by
  obtain ⟨other, y, hy, follows⟩ := ((linksKept_iff s).mp hs f x hx).follows link
  refine linksKept_own hs (fun k z hz => not_names_of_follower hs hx (by rw [link]; simp) hz) others fun w hw => ?_
  obtain ⟨n', linked, keeps⟩ := own w hw
  refine ⟨fun ⟨m, hm⟩ => ?_, LinkSide.kept_of_follows linked other hy (keeps y hy follows)⟩
  rw [linked] at hm
  cases hm
  exact other rfl

/-- A follower that becomes independent (R26, R147). -/
theorem linkSide_independent (b : LaneBody) : (independent b).linkSide.link = none ∧ (independent b).linkSide.Alone := by
  refine ⟨rfl, rfl, rfl, fun delays => ?_⟩
  show b.timing.target.isSome = true
  by_contra unset
  rw [Bool.not_eq_true, Option.isSome_eq_false_iff, Option.isNone_iff_eq_none] at unset
  have mode : (independent b).mode =
      if (b.mode = .build ∨ b.mode = .onTarget ∨ b.mode = .trim) ∧ b.timing.target = none then .drain else b.mode := rfl
  change (independent b).mode = _ ∨ (independent b).mode = _ ∨ (independent b).mode = _ at delays
  rw [mode] at delays
  split at delays
  · simp at delays
  · next settled => exact settled ⟨delays, unset⟩

/-- A lane that nobody follows becomes independent (R26). -/
theorem linksKept_makeIndependent (hs : LinksKept s) (nobody : ∀ k z, s.side? k = some z → ¬z.Names f) :
    LinksKept (s.makeIndependent f) := by
  refine linksKept_own hs nobody (fun k other => ?_) fun x hx => ?_
  · rw [State.side?, State.body?_makeIndependent, if_neg other]
    rfl
  · rw [State.side?, State.body?_makeIndependent, if_pos rfl, Option.map_map, Option.map_eq_some_iff] at hx
    obtain ⟨b, -, rfl⟩ := hx
    obtain ⟨free, alone⟩ := linkSide_independent b
    refine ⟨fun ⟨n, hn⟩ => ?_, LinkSide.kept_of_alone free alone⟩
    rw [Function.comp_apply, free] at hn
    cases hn

end

end Sys2Proof.Machine

namespace Sys2Proof.Machine

section
variable {s t u : State} {l f k : Lane} {b c d : LaneBody} {x y z : LinkSide}

/-! ### What a cut does to its lane -/

/-- A lane's body after a cut (R131, R132). -/
def LaneBody.afterCut (b : LaneBody) (kind : CutKind) (kept removed : List Record) (takeArrival : Bool) : LaneBody :=
  let arrival := takeArrival && b.removableArrival
  let report : CutReport :=
    { frames := removed.length + (if arrival then 1 else 0), arrival := arrival, depth := kept.length }
  { b with
    dl.records := kept
    dl.carried := (joinTail b.dl.carried (recordsCarry removed ++ b.spliceFor kind report)).1
    dl.mark := markLeaves b.dl.mark (removed.map (·.seq)) .removed
    intake.arrival := if arrival then b.intake.arrival.map (·.markDiscard) else b.intake.arrival }

theorem State.body?_cut (s : State) (l : Lane) (b : LaneBody) (kind : CutKind) (kept removed : List Record)
    (takeArrival mapped : Bool) (k : Lane) : (s.cut l b kind kept removed takeArrival mapped).1.body? k =
      if k = l then some (b.afterCut kind kept removed takeArrival) else s.body? k := by
  unfold State.cut
  dsimp only
  rw [State.body?_post, State.body?_dropPackets, State.body?_freePages, State.body?_setBody]
  rfl

theorem linkSide_afterCut (b : LaneBody) (kind : CutKind) (kept removed : List Record) (takeArrival : Bool) :
    (b.afterCut kind kept removed takeArrival).linkSide = b.linkSide := rfl

/-- What an immediate exit of its leader does to a follower's body (R150). -/
def LaneBody.afterMapExit (last : Seq) (b : LaneBody) : LaneBody :=
  match b.link with
  | none => b
  | some k =>
    ({ b with
      intake.discardThrough :=
        if k.leaderMoved then raiseDiscard b.intake.discardThrough (last - k.off) else b.intake.discardThrough
      link := some { k with pending := 0 } } : LaneBody).afterCut .exit [] b.dl.records true

theorem State.body?_mapExit (s : State) (f : Lane) (last : Seq) (k : Lane) :
    (s.mapExit f last).body? k = if k = f then (s.body? f).map (·.afterMapExit last) else s.body? k := by
  unfold State.mapExit LaneBody.afterMapExit
  cases hf : s.body? f with
  | none =>
    dsimp only
    split
    · next same => rw [same, hf]; rfl
    · rfl
  | some b =>
    dsimp only
    rw [Option.map_some]
    cases b.link with
    | none =>
      dsimp only
      split
      · next same => rw [same, hf]
      · rfl
    | some k => exact State.body?_cut _ _ _ _ _ _ _ _ _

/-! ### What a leader's action does to a follower -/

/-- A follower's body as its leader's action is handed to it (R124). -/
def LaneBody.handed (a : Action) (b : LaneBody) : LaneBody :=
  if -8 ≤ b.pendingCount + a.owed ∧ b.pendingCount + a.owed ≤ 8 then
    { b with link := b.link.map fun k => { k with pending := b.pendingCount + a.owed } }
  else b

theorem State.body?_adjustPending (s : State) (l f : Lane) (a : Action) (k : Lane) :
    (s.adjustPending l f a).body? k = if k = f then (s.body? f).map (·.handed a) else s.body? k := by
  unfold State.adjustPending LaneBody.handed
  cases hf : s.body? f with
  | none =>
    dsimp only
    split
    · next same => rw [same, hf]; rfl
    · rfl
  | some b =>
    dsimp only
    rw [Option.map_some]
    split
    · rw [State.body?_modBody, hf]
      rfl
    · rw [State.body?_post, State.body?_count]
      split
      · next same => rw [same, hf]
      · rfl

/-! ### Pending counts -/

/-- Pending counts change on followers of a lane that is not in PASS, within their bound (R124, R150). -/
theorem linksKept_pendings (hs : LinksKept s) (hb : s.body? l = some b) (free : b.link = none) (notPass : b.mode ≠ .pass)
    {op : State → Lane → State} (g : LaneBody → LaneBody)
    (bodies : ∀ (u : State) f k, (op u f).body? k = if k = f then (u.body? f).map g else u.body? k)
    (sides : ∀ d link, d.link = some link → -8 ≤ link.pending → link.pending ≤ 8 →
      ∃ n, -8 ≤ n ∧ n ≤ 8 ∧ (g d).linkSide = { d.linkSide with link := some (link.leader, n) }) :
    LinksKept ((s.followersOf l).foldl op s) ∧
      ∀ k, ((s.followersOf l).foldl op s).body? k = if k ∈ s.followersOf l then (s.body? k).map g else s.body? k := by
  have whole (k : Lane) := body?_foldl_lanes op (fun _ => g) (followersOf_nodup s l) s
    (fun u f k _ hu => by rw [bodies, hu]) k
  refine ⟨?_, whole⟩
  have self := not_mem_followersOf_self hb free
  refine linksKept_leadBodies (c := b) (all := g) hs hb free (fun k => (whole k).trans ?_) free id ?_
  · by_cases same : k = l
    · rw [if_pos same, same, if_neg self, hb]
    · rw [if_neg same]
  · rintro d link hlink ⟨alone, rate, mode, least, most, sources⟩
    obtain ⟨n, least', most', side⟩ := sides d link hlink least most
    refine ⟨n, by rw [side], ?_⟩
    rw [side]
    exact ⟨alone, rate, .inl (mode.resolve_right fun ⟨_, pass, _⟩ => notPass pass), least', most', sources⟩

theorem linkSide_handed (a : Action) {link : FollowerLink} (hlink : d.link = some link) (least : -8 ≤ link.pending)
    (most : link.pending ≤ 8) :
    ∃ n, -8 ≤ n ∧ n ≤ 8 ∧ (d.handed a).linkSide = { d.linkSide with link := some (link.leader, n) } := by
  unfold LaneBody.handed
  split
  · next within => exact ⟨_, within.1, within.2, by simp [LaneBody.linkSide, hlink]⟩
  · exact ⟨link.pending, least, most, by simp [LaneBody.linkSide, hlink]⟩

theorem linkSide_afterMapExit (last : Seq) {link : FollowerLink} (hlink : d.link = some link) :
    (d.afterMapExit last).linkSide = { d.linkSide with link := some (link.leader, 0) } := by
  unfold LaneBody.afterMapExit
  rw [hlink]
  dsimp only
  rw [linkSide_afterCut]
  simp [LaneBody.linkSide, hlink]

theorem linksKept_handAction (hs : LinksKept s) (hb : s.body? l = some b) (free : b.link = none) (notPass : b.mode ≠ .pass)
    (a : Action) : LinksKept (s.handAction l a) := by
  unfold State.handAction
  split
  · exact hs
  · exact (linksKept_pendings hs hb free notPass (LaneBody.handed a) (fun u f k => State.body?_adjustPending u l f a k)
      fun d link hlink => linkSide_handed a hlink).1

theorem State.body?_self_of_followers (hb : s.body? l = some b) (free : b.link = none) {g : LaneBody → LaneBody} :
    (if l ∈ s.followersOf l then (s.body? l).map g else s.body? l) = some b := by
  rw [if_neg (not_mem_followersOf_self hb free), hb]

theorem linksKept_exitNow (hs : LinksKept s) (l : Lane) : LinksKept (s.exitNow l).1 := by
  refine onIndependent_keeps hs fun b hb free => ?_
  split
  · exact hs
  · next notPass =>
    have own := State.moves_cut hb (fun _ _ h => h.toLineKeeps) (splits_all b.dl.records) .exit true false
    have body := State.body?_cut s l b .exit [] b.dl.records true false l
    rw [if_pos rfl] at body
    dsimp only
    generalize (s.cut l b .exit [] b.dl.records true false).1 = t at own body ⊢
    have cut := linksKept_moves own hs
    obtain ⟨mapped, bodies⟩ := linksKept_pendings cut body free notPass (LaneBody.afterMapExit (b.intake.nextSeq - 1))
      (fun u f k => State.body?_mapExit u f _ k) fun d link hlink _ _ =>
        ⟨0, by omega, by omega, linkSide_afterMapExit _ hlink⟩
    have still := (bodies l).trans (State.body?_self_of_followers body free)
    generalize (t.followersOf l).foldl (fun u f => u.mapExit f (b.intake.nextSeq - 1)) t = v at mapped still ⊢
    rw [State.modBody_of_some v l _ still]
    refine linksKept_changeMode (b := { b.afterCut .exit [] b.dl.records true with gov := _ }) ?_
      (State.body?_setBody_self _ _ _) free (by simp) .message
    exact linksKept_moves ((State.Moves.refl v).setBody still
      ((LaneBody.lineStep_gov _ GovState.within_entersPass).toLineKeeps)) mapped

/-- A lane changes in nothing that the relation looks at. -/
theorem linksKept_setBody (hs : LinksKept s) (hb : s.body? l = some b) (same : c.linkSide = b.linkSide) :
    LinksKept (s.setBody l (some c)) := by
  refine linksKept_congr (fun k => ?_) hs
  rw [State.side?, State.body?_setBody]
  split
  · next e => rw [e, State.side?_of_body hb, Option.map_some, same]
  · rfl

/-- A lane's account and then its state change. -/
theorem linksKept_govMode (hs : LinksKept s) (hb : s.body? l = some b) (same : c.linkSide = b.linkSide)
    (free : c.link = none) (g : GovState) {m : Mode}
    (target : m = .build ∨ m = .onTarget ∨ m = .trim → c.timing.target.isSome = true) (cause : Cause) :
    LinksKept ((s.setBody l (some { c with gov := g })).changeMode l m cause) := by
  have set : LinksKept (s.setBody l (some (c.withGov g))) := linksKept_setBody hs hb same
  exact linksKept_changeMode (b := c.withGov g) set (State.body?_setBody_self _ _ _) free target cause

theorem linksKept_exitGentle (hs : LinksKept s) (l : Lane) (cause : Cause) : LinksKept (s.exitGentle l cause).1 := by
  refine onIndependent_keeps hs fun b hb free => ?_
  dsimp only
  split
  · exact hs
  · exact hs
  all_goals exact linksKept_govMode hs hb rfl free _ (by simp) cause

theorem linksKept_enter (hs : LinksKept s) (l : Lane) (cause : Cause) : LinksKept (s.enter l cause).1 := by
  refine onIndependent_keeps hs fun b hb free => ?_
  dsimp only
  split
  · exact hs
  · exact hs
  · next target => exact linksKept_govMode hs hb rfl free _ (fun _ => by rw [target]; rfl) cause
  · next target =>
    split
    · exact linksKept_govMode hs hb rfl free _ (fun _ => by rw [target]; rfl) cause
    · exact linksKept_changeMode hs hb free (fun _ => by rw [target]; rfl) cause
  · exact hs

/-! ### The tick -/

theorem modeBySign_ne_pass (dev : Int) : modeBySign dev ≠ .pass ∧ modeBySign dev ≠ .drain := by
  unfold modeBySign
  split_ifs <;> decide

theorem reachDecision_mode (b : LaneBody) (g : GovState) (m : Mode) (dev : Int) : (b.reachDecision g m dev).mode = m := by
  unfold LaneBody.reachDecision
  split <;> rfl

/-- The governor's step leaves a lane delaying, and one that drains in its drain (R10, R112). -/
theorem governorStep_mode (b : LaneBody) : (b.mode = .drain → b.governorStep.mode = .drain) ∧
    (b.mode ≠ .drain → b.governorStep.mode ≠ .pass ∧ b.governorStep.mode ≠ .drain) := by
  unfold LaneBody.governorStep
  dsimp only
  split
  · next drain => exact ⟨fun _ => reachDecision_mode _ _ _ _, fun h => absurd drain h⟩
  · next other =>
    refine ⟨fun drain => absurd drain other, fun _ => ?_⟩
    split_ifs
    · simp
    · rw [reachDecision_mode]
      exact modeBySign_ne_pass _
    · exact modeBySign_ne_pass _
    · simp

theorem linksKept_independentAction (hs : LinksKept s) (hb : s.body? l = some b) (same : c.linkSide = b.linkSide)
    (free : c.link = none) : LinksKept (s.independentAction l c).1 := by
  have set (g : GovState) : LinksKept (s.setBody l (some { c with gov := g })) := linksKept_setBody hs hb same
  unfold State.independentAction
  dsimp only
  split
  · exact set _
  · next delays =>
    split
    · exact linksKept_govMode (m := .pass) hs hb same free _ (by simp) .governor
    · obtain ⟨drains, others⟩ := governorStep_mode c
      have own := State.body?_setBody_self s l (some { c with gov := c.governorStep.gov })
      split
      · exact linksKept_handAction (set _) own free delays _
      · next changes =>
        have other : c.mode ≠ .drain := fun drain => changes ((drains drain).trans drain.symm)
        have alone := ((linksKept_iff s).mp hs l _ (State.side?_of_body hb)).alone (same ▸ linkSide_link_none free)
        have target : c.timing.target.isSome = true := by
          rw [← same] at alone
          refine alone.2.2 ?_
          show c.mode = _ ∨ c.mode = _ ∨ c.mode = _
          cases mode : c.mode <;> simp_all
        have moved := linksKept_changeMode (set c.governorStep.gov) own free (m := c.governorStep.mode)
          (fun _ => target) .governor
        refine linksKept_handAction (b := { c with gov := c.governorStep.gov, mode := c.governorStep.mode }) moved ?_ free
          (others other).1 _
        rw [State.body?_changeMode own free, if_pos rfl]

/-- A follower's body once it has looked for the end of its drain (R25, R127). -/
def LaneBody.drained (leaderPasses : Bool) (b : LaneBody) : LaneBody :=
  if b.mode = .drain ∧ leaderPasses = true ∧ b.pendingCount = 0 then b.follow .pass else b

theorem State.body?_endDrain (s : State) (f leader k : Lane) : (s.endDrain f leader).body? k =
    if k = f then (s.body? f).map (·.drained (s.mode? leader == some .pass)) else s.body? k := by
  unfold State.endDrain LaneBody.drained
  cases hf : s.body? f with
  | none =>
    dsimp only
    split
    · next same => rw [same, hf]; rfl
    · rfl
  | some b =>
    dsimp only
    rw [Option.map_some]
    simp only [beq_iff_eq]
    split
    · rw [State.body?_followMode, hf]
      rfl
    · split
      · next same => rw [same, hf]
      · rfl

theorem State.body?_dropOwed (s : State) (f leader : Lane) (b : LaneBody) (k : Lane) : (s.dropOwed f leader b).body? k =
    if k = f then (s.body? f).map fun d => { d with link := d.link.map fun j => { j with pending := 0 } }
    else s.body? k := by
  unfold State.dropOwed
  dsimp only
  rw [State.body?_post, State.body?_count, State.body?_modBody]

theorem State.mode?_congr {t : State} (h : t.body? l = s.body? l) : t.mode? l = s.mode? l := by
  rw [State.mode?, h, State.mode?]

/-- A follower whose leader is in PASS, told of the leader's body. -/
theorem side_mode_of_mode? {m : Mode} (h : s.mode? l = some m) (hy : s.side? l = some y) : y.mode = m := by
  obtain ⟨b, hb, rfl⟩ := Option.map_eq_some_iff.mp hy
  rw [State.mode?, hb, Option.map_some] at h
  exact Option.some.inj h

theorem owedAction_bounds {n : Int} (hn : c.pendingCount = n) (least : -8 ≤ n) (most : n ≤ 8) :
    -8 ≤ n - c.owedAction.owed ∧ n - c.owedAction.owed ≤ 8 := by
  unfold LaneBody.owedAction
  rw [hn]
  split_ifs <;> simp only [Action.owed] <;> omega

theorem linkSide_drained (d : LaneBody) (p : Bool) : (d.drained p).linkSide =
    if d.mode = .drain ∧ p = true ∧ d.pendingCount = 0 then { d.linkSide with mode := .pass } else d.linkSide := by
  unfold LaneBody.drained
  split
  · exact linkSide_follow _ _
  · rfl

/-- A follower that is in DRAIN with its leader in PASS enters PASS when it owes nothing (R25, R127). -/
theorem linksKept_endDrain (hs : LinksKept s) {leader : Lane} {n n' : Int} {w : LaneBody} (hx : s.side? f = some x)
    (link : x.link = some (leader, n)) (others : ∀ k, k ≠ f → u.body? k = s.body? k) (own : u.body? f = some w)
    (side : w.linkSide = { x with link := some (leader, n') })
    (within : -8 ≤ n → n ≤ 8 → -8 ≤ n' ∧ n' ≤ 8) : LinksKept (u.endDrain f leader) := by
  obtain ⟨other, -⟩ := ((linksKept_iff s).mp hs f x hx).follows link
  have count : w.pendingCount = n' := by
    have links := congrArg LinkSide.link side
    cases h : w.link with
    | none => rw [linkSide_link_none h] at links; cases links
    | some k =>
      rw [linkSide_link_some h] at links
      simpa [LaneBody.pendingCount, h] using congrArg Prod.snd (Option.some.inj links)
  have mode : w.mode = x.mode := congrArg LinkSide.mode side
  refine linksKept_follower hs hx link (fun k away => ?_) fun v hv => ?_
  · rw [State.side?, State.body?_endDrain, if_neg away, others k away]
    rfl
  · rw [State.side?, State.body?_endDrain, if_pos rfl, own, Option.map_some, Option.map_some, Option.some.injEq,
      linkSide_drained, side, count, mode, State.mode?_congr (others leader other)] at hv
    subst hv
    refine ⟨n', by split <;> rfl, fun y hy follows => ?_⟩
    obtain ⟨alone, rate, modes, least, most, sources⟩ := follows
    obtain ⟨least', most'⟩ := within least most
    by_cases ends : x.mode = .drain ∧ (s.mode? leader == some .pass) = true ∧ n' = 0
    · rw [if_pos ends]
      exact ⟨alone, rate, .inl (side_mode_of_mode? (by simpa using ends.2.1) hy).symm, least', most', sources⟩
    · rw [if_neg ends]
      refine ⟨alone, rate, modes.imp_right fun ⟨drain, pass, _⟩ => ⟨drain, pass, fun zero => ends ⟨drain, ?_, zero⟩⟩,
        least', most', sources⟩
      obtain ⟨d, hd, rfl⟩ := Option.map_eq_some_iff.mp hy
      rw [State.mode?, hd, Option.map_some]
      exact beq_iff_eq.mpr (congrArg some pass)

theorem linksKept_followerAction (hs : LinksKept s) (hb : s.body? f = some b) (same : c.linkSide = b.linkSide)
    {link : FollowerLink} (hlink : c.link = some link) : LinksKept (s.followerAction f c link).1 := by
  have hx := State.side?_of_body hb
  have side : b.linkSide.link = some (link.leader, link.pending) := same ▸ linkSide_link_some hlink
  unfold State.followerAction
  dsimp only
  split
  · refine linksKept_endDrain (n' := 0) (w := { c with
      gov := { c.gov with dev := c.deviation, ticked := true }
      link := c.link.map fun j => { j with pending := 0 } }) hs hx side (fun k away => ?_) ?_ ?_
      fun _ _ => ⟨by omega, by omega⟩
    · rw [State.body?_dropOwed, if_neg away, State.body?_setBody_ne _ _ away]
    · rw [State.body?_dropOwed, if_pos rfl, State.body?_setBody_self]
      rfl
    · rw [← same]
      simp [LaneBody.linkSide, hlink]
  · refine linksKept_endDrain (n' := link.pending - c.owedAction.owed) hs hx side
      (fun k away => State.body?_setBody_ne _ _ away) (State.body?_setBody_self _ _ _) ?_ ?_
    · rw [← same]
      simp [LaneBody.linkSide, hlink]
    · exact owedAction_bounds (by simp [LaneBody.pendingCount, hlink])

theorem linksKept_settleAction (hs : LinksKept s) (hb : s.body? l = some b) : LinksKept (s.settleAction l b).1 := by
  unfold State.settleAction
  dsimp only
  split
  · next link hlink => exact linksKept_followerAction (c := { b with play.depth := b.h }) hs hb rfl hlink
  · next free => exact linksKept_independentAction (c := { b with play.depth := b.h }) hs hb rfl free

/-! ### Settings, links and releases -/

/-- A lane that is no follower keeps a target that it has. -/
theorem linksKept_timing (hs : LinksKept s) (hb : s.body? l = some b) (free : b.link = none) {x : Timing}
    (target : b.timing.target.isSome = true → x.target.isSome = true) :
    LinksKept (s.setBody l (some { b with timing := x })) := by
  refine linksKept_leadBodies (all := id) (c := { b with timing := x }) hs hb free (fun k => ?_) free ?_ ?_
  · rw [State.body?_setBody]
    simp only [Option.map_id, id_eq, ite_self]
  · rintro ⟨stray, leader, delays⟩
    exact ⟨stray, leader, fun mode => target (delays mode)⟩
  · rintro d link hlink ⟨alone, rate, mode, least, most, sources⟩
    exact ⟨link.pending, linkSide_link_some hlink, alone, rate, mode, least, most, sources⟩

theorem linksKept_setTiming (hs : LinksKept s) (l : Lane) (target dump lead : Nat) :
    LinksKept (s.setTiming l target dump lead).1 := by
  refine onIndependent_keeps hs fun b hb free => linksKept_timing hs hb free fun has => ?_
  dsimp only
  split
  · exact has
  · rfl

/-- Lanes made independent one after another, none of which anybody follows. -/
theorem linksKept_makeIndependents (hs : LinksKept s) (fs : List Lane)
    (nobody : ∀ f ∈ fs, ∀ k z, s.side? k = some z → ¬z.Names f) : LinksKept (fs.foldl State.makeIndependent s) := by
  induction fs generalizing s with
  | nil => exact hs
  | cons f fs ih =>
    refine ih (linksKept_makeIndependent hs (nobody f (by simp))) fun g hg k z hz => ?_
    rw [State.side?, State.body?_makeIndependent] at hz
    split at hz
    · rw [Option.map_map, Option.map_eq_some_iff] at hz
      obtain ⟨b, -, rfl⟩ := hz
      rintro ⟨n, hn⟩
      rw [Function.comp_apply, (linkSide_independent b).1] at hn
      cases hn
    · exact nobody g (by simp [hg]) k z hz

/-- A follower of a lane is followed by nobody (R23). -/
theorem nobody_follows_follower (hs : LinksKept s) (hf : f ∈ s.followersOf l) (k : Lane) (z : LinkSide)
    (hz : s.side? k = some z) : ¬z.Names f := by
  obtain ⟨x, hx, n, link⟩ := mem_followersOf_side.mp hf
  exact not_names_of_follower hs hx (by rw [link]; simp) hz

theorem State.body?_makeIndependents (s : State) (l k : Lane) :
    ((s.followersOf l).foldl State.makeIndependent s).body? k =
      if k ∈ s.followersOf l then (s.body? k).map independent else s.body? k :=
  body?_foldl_lanes State.makeIndependent (fun _ => independent) (followersOf_nodup s l) s
    (fun u f k _ hu => by rw [State.body?_makeIndependent, hu]) k

theorem linksKept_release (hs : LinksKept s) (l : Lane) : LinksKept (s.release l).1 := by
  unfold State.release
  split
  · exact hs
  · next b hb =>
    have parted := linksKept_makeIndependents hs (s.followersOf l) fun f hf => nobody_follows_follower hs hf
    have bodies := State.body?_makeIndependents s l
    generalize (s.followersOf l).foldl State.makeIndependent s = u at parted bodies
    refine linksKept_own (s := u) (f := l) parted (fun k z hz => ?_) (fun k other => ?_) fun x hx => ?_
    · rw [State.side?, bodies k] at hz
      split at hz
      · rw [Option.map_map, Option.map_eq_some_iff] at hz
        obtain ⟨d, -, rfl⟩ := hz
        rintro ⟨n, hn⟩
        rw [Function.comp_apply, (linkSide_independent d).1] at hn
        cases hn
      · next away => exact fun names => away (mem_followersOf_side.mpr ⟨z, hz, names⟩)
    · show ((u.setBody l none).body? k).map _ = _
      rw [State.body?_setBody_ne _ _ other]
      rfl
    · change ((u.setBody l none).body? l).map _ = _ at hx
      rw [State.body?_setBody_self] at hx
      cases hx

theorem linksKept_unlink (hs : LinksKept s) (f : Lane) : LinksKept (s.unlink f).1 := by
  refine onConfigured_keeps hs fun b hb => ?_
  split
  · next linked =>
    obtain ⟨link, hlink⟩ := Option.isSome_iff_exists.mp linked
    exact linksKept_makeIndependent hs fun k z hz =>
      not_names_of_follower hs (State.side?_of_body hb) (by rw [linkSide_link_some hlink]; simp) hz
  · exact hs

theorem linksKept_linkLanes (hs : LinksKept s) (f l : Lane) : LinksKept (s.linkLanes f l).1 := by
  refine onConfigured_keeps hs fun fb hf => onConfigured_keeps hs fun lb hl => ?_
  dsimp only
  split
  · next joins =>
    obtain ⟨other, fpass, lpass, rate, lfree, ffree, nobody⟩ := joins
    refine linksKept_own (f := f) hs (fun k z hz names => ?_) (fun k away => ?_) fun x hx => ?_
    · have follows := mem_followersOf_side.mpr ⟨z, hz, names⟩
      rw [nobody] at follows
      cases follows
    · rw [State.side?, State.body?_setBody_ne _ _ away]
      rfl
    · rw [State.side?, State.body?_setBody_self, Option.map_some, Option.some.injEq] at hx
      have alone := ((linksKept_iff s).mp hs f _ (State.side?_of_body hf)).alone (linkSide_link_none ffree)
      have linked : x.link = some (l, 0) ∧ x.rate = fb.fmt.rate ∧ x.mode = .pass ∧
          x.sources.leader = !lb.dl.sources.isEmpty := by
        subst hx
        split
        · next empty => exact ⟨rfl, rfl, fpass, by rw [empty]; exact alone.2.1⟩
        · next set =>
          rw [linkSide_cover]
          exact ⟨rfl, rfl, fpass, by rw [Bool.not_eq_true] at set; rw [set]; rfl⟩
      obtain ⟨link, rate', mode, sources⟩ := linked
      refine ⟨fun ⟨n, hn⟩ => ?_, LinkSide.kept_of_follows link (Ne.symm other) (State.side?_of_body hl)
        ⟨linkSide_link_none lfree, rate.symm.trans rate'.symm, .inl (mode.trans lpass.symm), by omega, by omega, sources⟩⟩
      rw [link] at hn
      cases hn
      exact other rfl
  · exact hs

theorem State.isLinked_false (h : s.isLinked l = false) (hb : s.body? l = some b) :
    b.link = none ∧ ∀ k z, s.side? k = some z → ¬z.Names l := by
  rw [State.isLinked, Bool.or_eq_false_iff] at h
  obtain ⟨free, nobody⟩ := h
  refine ⟨by simpa [State.leaderOf?, hb] using free, fun k z hz names => ?_⟩
  have follows := mem_followersOf_side.mpr ⟨z, hz, names⟩
  rw [show s.followersOf l = [] by simpa using nobody] at follows
  cases follows

theorem linksKept_configure (hs : LinksKept s) (l : Lane) (fmt : Format) (n : Nat) (force : Bool) :
    LinksKept (s.configure l fmt n force).1 := by
  have fresh (t : State) (x : LinkSide) (h : t.side? l = some x) (nobody : ∀ k z, s.side? k = some z → ¬z.Names l)
      (others : ∀ k, k ≠ l → t.side? k = s.side? k) (free : x.link = none) (alone : x.Alone) : LinksKept t := by
    refine linksKept_own hs nobody others fun y hy => ?_
    rw [h] at hy
    cases hy
    refine ⟨fun ⟨n, hn⟩ => ?_, LinkSide.kept_of_alone free alone⟩
    rw [free] at hn
    cases hn
  unfold State.configure
  dsimp only
  split
  · next off =>
    split
    · exact hs
    · refine fresh _ (LaneBody.fresh fmt (maxRecords (max n (6 * pagesPerFrame fmt.vclass)) fmt.vclass)).linkSide ?_
        (fun k z hz => not_names_of_off hs (by rw [State.side?, off]; rfl) hz) (fun k other => ?_) rfl
        ⟨rfl, rfl, by simp [LaneBody.linkSide, LaneBody.fresh]⟩
      · rw [State.side?, State.body?_post, State.body?_setBudget, State.body?_setSlot, if_pos rfl, Option.map_some]
      · rw [State.side?, State.body?_post, State.body?_setBudget, State.body?_setSlot, if_neg other, State.side?]
  · next b hb =>
    split_ifs with linked
    · exact hs
    · exact hs
    · exact hs
    · obtain ⟨free, nobody⟩ := State.isLinked_false (by simpa using linked) hb
      refine fresh _ (b.reconfigured fmt (maxRecords (max n (6 * pagesPerFrame fmt.vclass)) fmt.vclass)).linkSide ?_ nobody
        (fun k other => ?_) (linkSide_link_none free) ⟨?_, rfl, ?_⟩
      · show ((s.setBody l _).body? l).map _ = _
        rw [State.body?_setBody_self]
        rfl
      · show ((s.setBody l _).body? k).map _ = _
        rw [State.body?_setBody_ne _ _ other]
        rfl
      · show (if b.link.isSome then none else none) = _
        rw [ite_self]
      · simp [LaneBody.linkSide, LaneBody.reconfigured]

theorem linksKept_actions : KeptByActions LinksKept where
  line h := linksKept_moves h
  enter l cause hs := linksKept_enter hs l cause
  exitGentle l cause hs := linksKept_exitGentle hs l cause
  addSource free other hs := linksKept_addSource hs free other
  removeSource free other hs := linksKept_removeSource hs free other
  panel _ := id

theorem links_keptByMessages : KeptByMessages LinksKept where
  line h := linksKept_moves h
  clearCounters {s} l := linksKept_congr (s := s) fun k => by simp only [State.side?, State.body?_clearCounters]
  timing l target dump lead hs := linksKept_setTiming hs l target dump lead
  configure l fmt n force hs := linksKept_configure hs l fmt n force
  release l hs := linksKept_release hs l
  linkLanes f l hs := linksKept_linkLanes hs f l
  unlink f hs := linksKept_unlink hs f
  enter l cause hs := linksKept_enter hs l cause
  exitGentle l cause hs := linksKept_exitGentle hs l cause
  exitNow l hs := linksKept_exitNow hs l
  addSource free other hs := linksKept_addSource hs free other
  removeSource free other hs := linksKept_removeSource hs free other
  settle hb hs := linksKept_settleAction hs hb
  clearCounts _ _ := id
  inject {s} p body hs := by
    obtain same | ⟨k, arm, eq⟩ := injectMessage_state s p body
    · rwa [same]
    · rw [eq]
      exact hs
  unit {s h} p body hh hs := by
    obtain ⟨x, eq⟩ := unitMessage_link hh s p body
    rw [eq]
    exact hs
  panel p body hh hs := linksKept_actions.panelMessage hh hs p body
  sample i closed _ hs := linksKept_actions.sampleLine hs i closed

/-- The discard-through test leaves a lane that is no follower without a value, and no follower's value is looked at. -/
theorem linkSide_discardTest (b : LaneBody) (q : Seq) :
    (if b.link.isSome then none else (discardTest b q).2) = b.linkSide.stray := by
  unfold discardTest LaneBody.linkSide
  cases b.link <;> rfl

theorem linkSide_begun (b : LaneBody) (raster : Raster) (pages : List PageNo) :
    (b.begun raster pages).linkSide = b.linkSide := by
  show LinkSide.mk _ _ _ _ (if b.link.isSome then none else (discardTest b b.intake.nextSeq).2) _ = _
  rw [linkSide_discardTest]
  rfl

theorem linkSide_filled (b : LaneBody) : b.filled.linkSide = b.linkSide := by
  show LinkSide.mk _ _ _ _ (if b.link.isSome then none else (discardTest b b.intake.nextSeq).2) _ = _
  rw [linkSide_discardTest]
  rfl

theorem links_keptByTakes : KeptByTakes LinksKept where
  line h := linksKept_moves h
  begun {s _ b store} raster {pages} hs hb _ _ _ :=
    linksKept_setBody (s := { s with store := store }) hs hb (linkSide_begun b raster pages)
  filled {_ _ b} hs hb _ _ := linksKept_setBody hs hb (linkSide_filled b)

theorem linksKept_reset : LinksKept State.reset := fun l b hb => by cases l <;> cases hb

theorem links_keptByOuter : KeptByOuter LinksKept where
  post _ _ := id
  link _ := id
  tick _ := id
  poweredUp _ _ := linksKept_reset
  restarted _ _ := linksKept_reset

end

end Sys2Proof.Machine

section
open Sys2Proof Sys2Proof.Machine

/-- Settles O28: an operation on a leader reaches its followers alike, one on a follower keeps to its leader, and all other
changes of a lane leave alone what the relation looks at. -/
theorem linkRelationIsKept : Obligations.LinkRelationIsKept :=
  fun _ _ _ hs h => links_keptByMessages.exec_of_takes links_keptByTakes (links_keptByMessages.executor fun _ => id)
    (fun outer _ ht => links_keptByOuter.exec hs outer ht) hs h

end

namespace Sys2Proof.Machine

section
variable {s t u : State} {l f k : Lane} {b c d : LaneBody}

/-! ### A frame takes the next seq -/

/-- A follower's body once its link notes that the leader assigned a seq (log 26). -/
def LaneBody.noted (b : LaneBody) : LaneBody := { b with link := b.link.map fun k => { k with leaderMoved := true } }

/-- The seq that a lane takes is noted by its followers, and no other lane changes (R45). -/
theorem State.body?_takeSeq (self : l ∉ s.followersOf l) (k : Lane) : (s.takeSeq l).body? k =
    if k = l then (s.body? l).map fun b => { b with intake.nextSeq := b.intake.nextSeq + 1 }
    else if k ∈ s.followersOf l then (s.body? k).map LaneBody.noted else s.body? k := by
  unfold State.takeSeq
  rw [body?_foldl_lanes _ (fun _ => LaneBody.noted) (followersOf_nodup s l), State.body?_modBody]
  · by_cases same : k = l
    · rw [if_pos same, if_pos same, same, if_neg self]
    · rw [if_neg same, if_neg same]
  · intro u f k _ hu
    rw [State.body?_modBody, hu]
    rfl

theorem State.takeSeq_bodiesFrom (s : State) (l : Lane) : (s.takeSeq l).BodiesFrom s :=
  (State.bodiesFrom_foldl (fun u f => State.bodiesFrom_modBody u f _) _ _).trans (State.bodiesFrom_modBody _ _ _)

theorem State.takeSeq_link (s : State) (l : Lane) : (s.takeSeq l).link = s.link := by
  unfold State.takeSeq
  rw [foldl_keeps _ State.link fun _ _ => State.modBody_link _ _ _, State.modBody_link]

theorem State.takeSeq_store (s : State) (l : Lane) : (s.takeSeq l).store = s.store := by
  unfold State.takeSeq
  rw [foldl_keeps _ State.store fun _ _ => State.modBody_store _ _ _, State.modBody_store]

theorem State.leaderOf?_setBody (hb : s.body? l = some b) (link : c.link = b.link) (k : Lane) :
    (s.setBody l (some c)).leaderOf? k = s.leaderOf? k := by
  rw [State.leaderOf?, State.leaderOf?, State.body?_setBody]
  split
  · next same => rw [same, hb, Option.bind_some, Option.bind_some, link]
  · rfl

theorem State.followersOf_setBody (hb : s.body? l = some b) (link : c.link = b.link) (k : Lane) :
    (s.setBody l (some c)).followersOf k = s.followersOf k :=
  followersOf_congr (State.leaderOf?_setBody hb link) k

theorem not_mem_followersOf_iff : l ∉ s.followersOf l ↔ s.leaderOf? l ≠ some l := by
  simp [State.followersOf, mem_allLanes]

/-- Where the full-line check leaves the lane, a fill is made on it (R63). -/
theorem State.body?_makeFill (hc : (s.fullLineCheck l).body? l = some c) (self : l ∉ (s.fullLineCheck l).followersOf l)
    (k : Lane) : (s.makeFill l).body? k = if k = l then some c.filled
      else if k ∈ (s.fullLineCheck l).followersOf l then ((s.fullLineCheck l).body? k).map LaneBody.noted
      else (s.fullLineCheck l).body? k := by
  unfold State.makeFill
  generalize s.fullLineCheck l = t at hc self ⊢
  dsimp only
  rw [hc]
  dsimp only
  have followers := State.followersOf_setBody (c := { c with
    intake.discardThrough := (discardTest c c.intake.nextSeq).2
    dl.records := if (discardTest c c.intake.nextSeq).1 then c.dl.records else c.dl.records ++ [c.fillRecord]
    dl.mark := markStarts c.dl.mark c.intake.nextSeq
      (if (discardTest c c.intake.nextSeq).1 then .gone .removed else .held) }) hc rfl l
  rw [State.body?_takeSeq (by rwa [followers]), followers, State.body?_setBody_self]
  by_cases same : k = l
  · rw [if_pos same, if_pos same]
    rfl
  · rw [if_neg same, if_neg same, State.body?_setBody_ne _ _ same]

/-! ### A lane that owes 2^32 fills (O16) -/

/-- The next-seq of a lane and the seqs of its line. -/
def LaneBody.line (b : LaneBody) : Seq × List Seq := (b.intake.nextSeq, b.dl.records.map (·.seq))

/-- A delaying lane that is no follower and whose line holds the n fills it made from the seq 0 on. -/
def State.Filled (s : State) (l : Lane) (m n : Nat) : Prop :=
  ∃ b, s.body? l = some b ∧ b.mode ≠ .pass ∧ b.maxH = m ∧ b.link = none ∧
    b.line = (BitVec.ofNat 32 n, (List.range n).map (BitVec.ofNat 32))

theorem State.filled_makeFill {m n : Nat} (h : s.Filled l m n) (room : n < m) : (s.makeFill l).Filled l m (n + 1) := by
  obtain ⟨b, hb, delays, most, free, line⟩ := h
  obtain ⟨next, seqs⟩ := Prod.mk.injEq _ _ _ _ ▸ line
  have held : b.h = n := by
    have := congrArg List.length seqs
    simpa [LaneBody.h] using this
  have excess : b.excess = 0 := by
    unfold LaneBody.excess LaneBody.lineLimit
    rw [if_neg delays, if_pos (by omega)]
  have checked : (s.fullLineCheck l).body? l = some b.checked := by
    rw [State.body?_fullLineCheck, if_pos rfl, hb]
    rfl
  refine ⟨b.checked.filled, ?_, delays, most, free, ?_⟩
  · rw [State.body?_makeFill checked (not_mem_followersOf_self checked free), if_pos rfl]
  · have aired : discardTest b.checked b.checked.intake.nextSeq = (false, b.intake.discardThrough) := by
      unfold discardTest
      rw [show b.checked.link = none from free]
      rfl
    have records : b.checked.dl.records = b.dl.records := by
      show b.dl.records.drop b.excess = _
      rw [excess, List.drop_zero]
    unfold LaneBody.line LaneBody.filled
    simp only [aired, Bool.false_eq_true, if_false, records, List.map_append, seqs, Prod.mk.injEq]
    refine ⟨?_, ?_⟩
    · show b.intake.nextSeq + 1 = _
      rw [next, BitVec.ofNat_add]
      rfl
    · rw [List.range_succ, List.map_append]
      congr 1
      show [b.intake.nextSeq] = _
      rw [next]
      rfl

theorem State.filled_makeFills {m n i total : Nat} (h : s.Filled l m i) (sum : i + n = total) (room : total ≤ m) :
    (s.makeFills l n).Filled l m total := by
  induction n generalizing s i with
  | zero => exact sum ▸ h
  | succ n ih =>
    exact ih (State.filled_makeFill h (by omega)) (by omega)

/-- After 2^32 fills the next-seq has come round to the seq of the first of them. -/
theorem State.not_seqsKept_of_filled {m : Nat} (h : s.Filled l m 4294967296) : ¬SeqsKept s := by
  obtain ⟨b, hb, -, -, -, line⟩ := h
  obtain ⟨next, seqs⟩ := Prod.mk.injEq _ _ _ _ ▸ line
  intro kept
  obtain ⟨⟨-, beyond⟩, -⟩ := kept l b hb
  have first : (0 : Seq) ∈ b.seqs := by
    refine List.mem_append_left _ ?_
    rw [seqs]
    exact List.mem_map.mpr ⟨0, List.mem_range.mpr (by omega), rfl⟩
  have behind := beyond 0 first
  rw [LaneBody.behind, next] at behind
  exact absurd behind (by decide)

/-- Fills that fall due while no frame is arriving are made at once, and those owed with them (R64). -/
theorem State.intakeTick_waiting (hb : s.body? l = some b) (waits : b.intake.arrival = none)
    (declared : b.intake.declares = false) (due : b.intake.due ≠ 0) :
    s.intakeTick l = (s.setBody l (some (b.ticked 0))).makeFills l (b.intake.due + b.intake.owed) := by
  unfold State.intakeTick
  rw [hb]
  dsimp only
  rw [declared, if_neg Bool.false_ne_true, if_neg due, waits]
  simp only [LaneBody.ticked, LaneBody.withCounts, LaneBody.withFrames, waits, declared]

/-- A lane that waits for its input with an empty line is filled with what falls due and what it owes. -/
theorem State.filled_intakeTick {m n : Nat} (hb : s.body? l = some b) (waits : b.intake.arrival = none)
    (declared : b.intake.declares = false) (due : b.intake.due ≠ 0) (sum : b.intake.due + b.intake.owed = n) (room : n ≤ m)
    (delays : b.mode ≠ .pass) (most : b.maxH = m) (free : b.link = none) (line : b.line = (0, [])) :
    (s.intakeTick l).Filled l m n := by
  rw [State.intakeTick_waiting hb waits declared due, sum]
  exact State.filled_makeFills (i := 0) ⟨b.ticked 0, State.body?_setBody_self _ _ _, delays, most, free, line⟩
    (Nat.zero_add n) room

/-- A delaying lane with an empty line, a declared loss, and 2^32 − 1 fills owed; its M has room for them all. -/
def overdueBody : LaneBody :=
  { LaneBody.fresh { rate := 0, vclass := .audioOnly, channels := .c2 } 8589934592 with
    mode := .build
    timing := { Timing.default with target := some { ms := 1000, frames := 24 } }
    intake := { Intake.fresh with loss := true, ticksSince := 3, owed := 4294967295 } }

/-- The part with that lane as its lane 1. -/
def overdue : State :=
  { State.reset with lanes := { State.reset.lanes with l1 := { counters := .zero, body := some overdueBody } } }

theorem overdue_seqs (l : Lane) (b : LaneBody) (hb : overdue.body? l = some b) : b.seqs = [] ∧ b.dl.mark = none := by
  cases l with
  | l1 => cases hb; exact ⟨rfl, rfl⟩
  | l2 | l3 | l4 => cases hb

theorem overdue_seqsKept : SeqsKept overdue := by
  intro l b hb
  obtain ⟨seqs, mark⟩ := overdue_seqs l b hb
  refine ⟨⟨by rw [seqs]; exact List.Pairwise.nil, by rw [seqs]; exact fun q hq => nomatch hq⟩, fun m hm => ?_⟩
  rw [mark] at hm
  cases hm

theorem overdue_seqsSpan : SeqsSpan overdue := by
  intro l b hb q hq
  rw [(overdue_seqs l b hb).1] at hq
  cases hq

/-- Playout's tick leaves that lane delaying with its line empty and its fills owed. -/
theorem overdue_playTick : ((overdue.playTick .l1).body? .l1).map
    (fun b => (b.mode, b.maxH, b.link, b.intake, b.dl.records)) =
      some (.build, 8589934592, none, overdueBody.intake, []) := rfl

theorem overdue_laneTick : (overdue.laneTick .l1 false).Filled .l1 8589934592 4294967296 := by
  obtain ⟨b, hb, same⟩ := Option.map_eq_some_iff.mp overdue_playTick
  obtain ⟨mode, most, free, intake, records⟩ : b.mode = .build ∧ b.maxH = 8589934592 ∧ b.link = none ∧
      b.intake = overdueBody.intake ∧ b.dl.records = [] := by
    rwa [Prod.mk.injEq, Prod.mk.injEq, Prod.mk.injEq, Prod.mk.injEq] at same
  have due : b.intake.due = 1 := by rw [intake]; rfl
  have owed : b.intake.owed = 4294967295 := by rw [intake]; rfl
  have run : overdue.laneTick .l1 false = (overdue.playTick .l1).intakeTick .l1 := if_neg Bool.false_ne_true
  rw [run]
  refine State.filled_intakeTick hb (by rw [intake]; rfl) (by rw [intake]; rfl) (by omega) (by omega) (by omega)
    (by rw [mode]; decide) most free ?_
  rw [LaneBody.line, intake, records]
  rfl

end

end Sys2Proof.Machine

section
open Sys2Proof Sys2Proof.Machine

/-- Refutes O16: the span says nothing of the fills owed on a lane whose line is empty. `overdue` owes 2^32 − 1 of them; at a
tick 2^32 fills are made, and the next-seq comes round to the seq of the first. -/
theorem not_lineOrderAndMarkAreKept : ¬ Obligations.LineOrderAndMarkAreKept := fun h =>
  State.not_seqsKept_of_filled overdue_laneTick
    (h (.laneTick .l1 false) overdue _ overdue_seqsKept overdue_seqsSpan rfl)

end

namespace Sys2Proof.Machine

section
variable {s t : State} {p : Port}

/-! ### Resets -/

theorem State.body?_reset (l : Lane) : State.reset.body? l = none := by cases l <;> rfl

theorem seqsKept_reset : SeqsKept State.reset := fun l b hb => by
  rw [State.body?_reset] at hb
  cases hb

theorem freeList_reset : freeList State.reset.store.free = List.range 65536 := by
  simp only [State.reset, Store.reset, freeList, List.append_nil, List.range_eq_range']
  rfl

theorem State.inputs_reset (i : Fin 16) : State.reset.panel.inputs.get i = InLine.reset := by
  simp [State.reset, Panel.reset, Vector.get_eq_getElem]

theorem State.outputs_reset (i : Fin 16) : State.reset.panel.outputs.get i = OutLine.reset := by
  simp [State.reset, Panel.reset, Vector.get_eq_getElem]

theorem State.banks_reset (k : Fin 8) : State.reset.store.banks.get k = Bank.clear := by
  simp [State.reset, Store.reset, Vector.get_eq_getElem]

theorem State.ports_reset (p : Port) : State.reset.link.ports.get p = PortState.reset := by cases p <;> rfl

theorem KindSetting.get_defaults (k : Fin 13) :
    KindSetting.defaults.get k = { enabled := true, high := decide (k.val < 5) } := by
  revert k
  decide

/-- RESTART_EFFECT takes the part to its reset state, but for what RESTART keeps, once the port's replies are sent (R174). -/
theorem restartEffect_of_sent (pending : s.link.restartPending = some p) (sent : (s.link.ports.get p).replies = []) :
    exec .restartEffect s = .next { State.reset with
      pending := s.pending
      store := { Store.reset with banks := s.store.banks.map Bank.restarted, errs := s.store.errs }
      link := { ports := { a := s.link.ports.a.restarted, b := s.link.ports.b.restarted }
                controller := p, takeoverAllowed := s.link.takeoverAllowed, lastServed := .b
                restartPending := none, lineRate := s.link.lineRate } } := by
  simp [exec, execRestartEffect, pending, sent]

theorem restartEffect_of_unsent (pending : s.link.restartPending = some p) (unsent : (s.link.ports.get p).replies ≠ []) :
    exec .restartEffect s = .next s := by
  simp [exec, execRestartEffect, pending, unsent]

theorem restartEffect_of_none (none : s.link.restartPending = none) : exec .restartEffect s = .next s := by
  simp [exec, execRestartEffect, none]

/-- What RESTART_EFFECT can do: nothing, or the restart of a port whose replies are sent. -/
theorem restartEffect_cases (h : exec .restartEffect s = .next t) :
    t = s ∨ ∃ p, s.link.restartPending = some p ∧ (s.link.ports.get p).replies = [] ∧
      t.link.lastServed = .b ∧ t.link.takeoverAllowed = s.link.takeoverAllowed := by
  rcases pending : s.link.restartPending with _ | p
  · rw [restartEffect_of_none pending] at h
    cases h
    exact .inl rfl
  · by_cases sent : (s.link.ports.get p).replies = []
    · rw [restartEffect_of_sent pending sent] at h
      cases h
      exact .inr ⟨p, rfl, sent, rfl, rfl⟩
    · rw [restartEffect_of_unsent pending sent] at h
      cases h
      exact .inl rfl

/-- POWER_UP and RESETN leave the reset state of the Control Link Unit, with the strap's line rate (R178). -/
theorem link_of_reset {x : Bool} (h : exec (.powerUp x) s = .next t ∨ exec (.resetN x) s = .next t) :
    t.link = .reset x := by
  rcases h with h | h <;> cases h <;> rfl

/-! ### The port that is served -/

theorem PortState.eligible_iff (q : PortState) : q.eligible = true ↔ Eligible q := by
  simp [PortState.eligible, Eligible]

/-- The port served is eligible, and it is not the last-served one where the other is eligible too (R169). -/
theorem LinkUnit.nextPort_eq_some_iff (u : LinkUnit) (p : Port) : u.nextPort = some p ↔
    u.restartPending = none ∧ Eligible (u.ports.get p) ∧ (Eligible (u.ports.get p.other) → p ≠ u.lastServed) := by
  simp only [← PortState.eligible_iff]
  rcases pending : u.restartPending with _ | q
  · have turn : (u.lastServed.other = p) ↔ p ≠ u.lastServed := by
      cases u.lastServed <;> cases p <;> decide
    unfold LinkUnit.nextPort
    cases ha : (u.ports.get .a).eligible <;> cases hb : (u.ports.get .b).eligible <;> cases p <;>
      simp [pending, ha, hb, show Port.a.other = .b from rfl, show Port.b.other = .a from rfl, turn]
  · simp [LinkUnit.nextPort, pending]

theorem serves_iff (s : State) (p : Port) (r : Request) : Serves s p r ↔
    s.link.restartPending = none ∧ Eligible (s.link.ports.get p) ∧ (s.link.ports.get p).inbound.head? = some r ∧
      (Eligible (s.link.ports.get p.other) → p ≠ s.link.lastServed) := by
  have served : Serves s p r ↔ s.link.nextPort = some p ∧ (s.link.ports.get p).inbound.head? = some r := by
    simp [Serves, State.nextRequest, Option.bind_eq_some_iff]
  rw [served, LinkUnit.nextPort_eq_some_iff]
  exact ⟨fun ⟨⟨free, eligible, turn⟩, head⟩ => ⟨free, eligible, head, turn⟩,
    fun ⟨free, eligible, head, turn⟩ => ⟨⟨free, eligible, turn⟩, head⟩⟩

end

end Sys2Proof.Machine

section
open Sys2Proof Sys2Proof.Machine

/-- Settles O31, invariant by invariant. -/
theorem resetMeetsTheInvariants : Obligations.ResetMeetsTheInvariants :=
  ⟨pagesOwned_reset, budgetsKept_reset, errs_wf_reset, lanesBounded_reset, seqsKept_reset, linksKept_reset, panelKept_reset,
    portsKept_reset false⟩

/-- Settles O1, from the two cases of the queue. -/
theorem stepExecutesTheFrontCommand : Obligations.StepExecutesTheFrontCommand := by
  refine ⟨fun s c rest front => ?_, fun s empty => ?_⟩
  · rw [step, front]
  · rw [step, empty]

/-- Settles O17: what the two commands leave, and the reset state field by field. -/
theorem resetStateIsTheManuals : Obligations.ResetStateIsTheManuals := by
  refine ⟨fun s ratesel => ⟨rfl, rfl⟩, fun l => ⟨State.body?_reset l, ?_, ?_, ?_⟩, freeList_reset, State.banks_reset, rfl, rfl, rfl,
    fun i => ⟨State.inputs_reset i, State.outputs_reset i, ?_⟩, fun p => ?_, rfl, rfl, rfl, rfl⟩
  · cases l <;> decide
  · cases l <;> rfl
  · cases l <;> rfl
  · rw [State.outLevel, State.outputs_reset]
    rfl
  · rw [State.ports_reset]
    exact ⟨rfl, rfl, rfl, rfl, rfl, by decide, KindSetting.get_defaults⟩

/-- Settles O5: the port by the cases of R169; after each reset the last-served port is that of the reset state. -/
theorem executorServesThePortsInTurn : Obligations.ExecutorServesThePortsInTurn := by
  refine ⟨serves_iff, fun s p => rfl, fun s t x reset => ?_, fun s t pending effect free => ?_⟩
  · rw [link_of_reset reset]
    rfl
  · rcases restartEffect_cases effect with rfl | ⟨p, -, -, last, -⟩
    · exact absurd free pending
    · exact last

end

namespace Sys2Proof.Machine

section
variable {s t : State} {l : Lane}

/-! ### The CRC as a shift register -/

/-- One bit fed into the shift register of R167. -/
def crcShift (c : BitVec 16) (x : Bool) : BitVec 16 := if c.msb != x then (c <<< 1) ^^^ 0x1021#16 else c <<< 1

/-- A value added to the CRC is fed in by its highest bit; the rest of it moves up. -/
theorem crcBit_xor (c d : BitVec 16) : crcBit (c ^^^ d) = crcShift c d.msb ^^^ (d <<< 1) := by
  unfold crcBit crcShift
  rw [BitVec.msb_xor, BitVec.shiftLeft_xor_distrib]
  split
  · rw [BitVec.xor_assoc, BitVec.xor_assoc, BitVec.xor_comm (d <<< 1)]
  · rfl

theorem crcBits_xor (n : Nat) (c d : BitVec 16) :
    crcBits n (c ^^^ d) = ((List.range n).map fun i => d.getMsbD i).foldl crcShift c ^^^ (d <<< n) := by
  induction n generalizing c d with
  | zero => simp [crcBits]
  | succ n ih =>
    have next (i : Nat) : (d <<< 1).getMsbD i = d.getMsbD (i + 1) := by
      rw [BitVec.getMsbD_shiftLeft, Nat.add_comm]
    rw [crcBits, crcBit_xor, ih, List.range_succ_eq_map, List.map_cons, List.map_map, List.foldl_cons, ← BitVec.shiftLeft_add,
      Nat.add_comm 1 n]
    simp only [next, BitVec.msb_eq_getMsbD_zero]
    rfl

theorem crcByte_eq (c : BitVec 16) (b : Byte) : crcByte c b = (bitsOf b).foldl crcShift c := by
  have gone : (b.zeroExtend 16 <<< 8) <<< 8 = 0#16 := by
    rw [← BitVec.shiftLeft_add]
    exact BitVec.shiftLeft_eq_zero (le_refl 16)
  have bits : ((List.range 8).map fun i => (b.zeroExtend 16 <<< 8).getMsbD i) = bitsOf b := by
    refine List.map_congr_left fun i _ => ?_
    simp [BitVec.getMsbD_shiftLeft, BitVec.getMsbD_setWidth]
  rw [crcByte, crcBits_xor, gone, bits, BitVec.xor_zero]

theorem crc16_eq (bytes : List Byte) : crc16 bytes = crcSerial (bytes.flatMap bitsOf) := by
  rw [crc16, crcSerial, List.foldl_flatMap]
  congr 1
  funext c b
  exact crcByte_eq c b

/-! ### Conversions -/

theorem rateNum_pos (r : Fin 8) : 0 < rateNum r := by revert r; decide

theorem rateDen_pos (r : Fin 8) : 0 < rateDen r := by revert r; decide

/-! ### The free page list -/

theorem popPages_isSome {n : Nat} {runs : List Run} (room : n ≤ (freeList runs).length) :
    ∃ ps rest, popPages n runs = some (ps, rest) := by
  rcases h : popPages n runs with _ | ⟨ps, rest⟩
  · exact absurd (popPages_none h) (by omega)
  · exact ⟨ps, rest, rfl⟩

theorem Store.allocate_of_room {st : Store} {n : Nat} (l : Lane) (room : n ≤ (freeList st.free).length) :
    ∃ st', st.allocate l n = some ((freeList st.free).take n, st') ∧
      freeList st'.free = (freeList st.free).drop n ∧
      st' = { st with free := st'.free, inUse := st.inUse.set l (st.inUse.get l + n) } := by
  obtain ⟨ps, rest, h⟩ := popPages_isSome room
  obtain ⟨list, length⟩ := freeList_popPages h
  refine ⟨{ st with free := rest, inUse := st.inUse.set l (st.inUse.get l + n) }, ?_, ?_, rfl⟩
  · rw [Store.allocate, h, list, ← length, List.take_left]
    rfl
  · rw [list, ← length, List.drop_left]

theorem Store.allocate_of_lack {st : Store} {n : Nat} (l : Lane) (lack : (freeList st.free).length < n) :
    st.allocate l n = none := by
  rcases h : st.allocate l n with _ | ⟨pages, st'⟩
  · rfl
  · obtain ⟨list, length, -⟩ := Store.allocate_spec h
    rw [list, List.length_append] at lack
    omega

end

end Sys2Proof.Machine

section
open Sys2Proof Sys2Proof.Machine

/-- Settles O3: feeding a byte's bits one at a time is adding it to the register and shifting eight times. -/
theorem crcIsTheBitSerialRemainder : Obligations.CrcIsTheBitSerialRemainder := by
  intro bytes
  have high (c : BitVec 16) : BitVec.ofNat 8 (c.toNat / 256) = c.extractLsb' 8 8 :=
    BitVec.eq_of_toNat_eq (by simp [Nat.shiftRight_eq_div_pow])
  have low (c : BitVec 16) : BitVec.ofNat 8 c.toNat = c.extractLsb' 0 8 := BitVec.eq_of_toNat_eq (by simp)
  rw [crcBytes, be16, crc16_eq, high, low]

/-- Settles O32: a quotient rounded down, of a numerator raised by half the denominator. -/
theorem conversionsRoundToNearest : Obligations.ConversionsRoundToNearest := by
  refine ⟨by decide, fun r n => ⟨⟨Nat.mul_div_le _ _, Nat.lt_mul_div_succ _ ?_⟩, Nat.mul_div_le _ _, Nat.lt_mul_div_succ _ ?_⟩⟩
  · have := rateDen_pos r
    omega
  · have := rateNum_pos r
    omega

/-- Settles O19, from what the runs of the free list stand for. -/
theorem freeListIsFirstInFirstOut : Obligations.FreeListIsFirstInFirstOut := fun st l _ pages =>
  ⟨Store.allocate_of_room l, Store.allocate_of_lack l, freeList_foldl_pushPage pages st.free, rfl⟩

/-- Settles O18, by the state of the Tick Generator and the interval of the pulse. -/
theorem referenceLocksAndFrees : Obligations.ReferenceLocksAndFrees := by
  refine fun s => ⟨fun r locked => ⟨?_, fun i out => ?_, ?_⟩, fun free => ⟨?_, ?_, fun i first => ?_, fun r second => ?_⟩⟩
  · simp [exec, execReferencePulse, locked]
  · simp [exec, execReferencePulse, locked, out]
  · simp [exec, execReferenceLost, locked]
  · simp [exec, execReferenceLost, free]
  · simp [exec, execReferencePulse, free]
  · cases i <;> simp [exec, execReferencePulse, free, first]
  · simp [exec, execReferencePulse, free, second]

end

namespace Sys2Proof.Machine

section
variable {s t : State} {l : Lane} {p : Port} {q : PortState}

/-! ### Pending sets, by kind and lane (R175) -/

/-- The entry of a key in a pending set. -/
def findNotice (m : List NoticeEntry) (k : Nat) : Option NoticeEntry := m.find? fun x => x.key == k

theorem findNotice_cons (x : NoticeEntry) (m : List NoticeEntry) (k : Nat) :
    findNotice (x :: m) k = if x.key = k then some x else findNotice m k := by
  unfold findNotice
  rw [List.find?_cons]
  by_cases same : x.key = k
  · simp [same]
  · rw [if_neg same, beq_false_of_ne same]

/-- A posting leaves the entries of the other kinds and lanes. -/
theorem findNotice_insertNotice_ne (e : NoticeEntry) (m : List NoticeEntry) {k : Nat} (other : k ≠ e.key) :
    findNotice (insertNotice e m) k = findNotice m k := by
  induction m with
  | nil => rw [insertNotice, findNotice_cons, if_neg other.symm]
  | cons y m ih =>
    unfold insertNotice
    split_ifs with before same
    · rw [findNotice_cons, if_neg other.symm]
    · rw [findNotice_cons, findNotice_cons, NoticeEntry.key_replaced same.symm, if_neg other.symm, if_neg (same ▸ other.symm)]
    · rw [findNotice_cons, findNotice_cons, ih]

/-- A posting makes its entry, or raises the count and replaces the detail of the one that stands. -/
theorem findNotice_insertNotice_self (e : NoticeEntry) {m : List NoticeEntry} (h : m.Pairwise fun x y => x.key < y.key) :
    findNotice (insertNotice e m) e.key = some (((findNotice m e.key).map fun x =>
      { x with detail := e.detail, count := satAdd 255 x.count 1 }).getD e) := by
  induction m with
  | nil => rw [insertNotice, findNotice_cons, if_pos rfl]; rfl
  | cons y m ih =>
    obtain ⟨first, rest⟩ := List.pairwise_cons.mp h
    unfold insertNotice
    split_ifs with before same
    · have none : findNotice (y :: m) e.key = none := by
        refine List.find?_eq_none.mpr fun z hz => ?_
        rcases List.mem_cons.mp hz with rfl | hz
        · simp only [beq_iff_eq]
          omega
        · have := first z hz
          simp only [beq_iff_eq]
          omega
      rw [none, findNotice_cons, if_pos rfl]
      rfl
    · rw [findNotice_cons, findNotice_cons, NoticeEntry.key_replaced same.symm, if_pos rfl, if_pos same.symm]
      rfl
    · rw [findNotice_cons, findNotice_cons, if_neg (Ne.symm same), if_neg (Ne.symm same), ih rest]

/-! ### What a transmitter takes -/

theorem State.modPort_congr {f g : PortState → PortState} (h : f (s.link.ports.get p) = g (s.link.ports.get p)) :
    s.modPort p f = s.modPort p g := by
  rw [State.modPort, h, State.modPort]

theorem resultNo_le (r : Result) : resultNo r ≤ 16 := by cases r <;> decide

/-- A status byte as the sum of its fields (10.3). -/
theorem statusByte_eq (r : Result) (seen controls : Bool) : statusByte r seen controls =
    BitVec.ofNat 8 (resultNo r + ((if seen then 32 else 0) + (if controls then 64 else 0))) := by
  have number := resultNo_le r
  have bit := Bool.toNat_le seen
  rw [statusByte, boolByte_eq_ofNat, boolByte_eq_ofNat, ofNat_or_shiftLeft _ (by omega), ofNat_or_shiftLeft _ (by omega)]
  cases seen <;> cases controls <;> rfl

theorem replyFrame_eq (r : Reply) (seen : Bool) : replyFrame r seen =
    let flags := (if seen then 32 else 0) + (if r.isController then 64 else 0)
    let counted : List Byte := BitVec.ofNat 8 (3 + r.body.length) :: r.tag :: (r.code + 0x80) ::
      BitVec.ofNat 8 (resultNo r.result + flags) :: r.body
    0xA7 :: (counted ++ crcBytes counted) := by
  have length : (r.tag :: (r.code + 0x80) :: statusByte r.result seen r.isController :: r.body).length =
      3 + r.body.length := by
    simp only [List.length_cons]
    omega
  rw [replyFrame, frameBytes, length, statusByte_eq]
  rfl

theorem detailBytes_length_le (d : Detail) : (detailBytes d).length ≤ 6 := by
  cases d <;> simp [detailBytes, be16, be32, be24]

theorem SentBefore.key_lt {e x : NoticeEntry} (h : SentBefore q e x) (same : q.isHigh e = q.isHigh x) : e.key < x.key := by
  have := toNat_laneByte_le e.lane
  have := toNat_laneByte_le x.lane
  obtain ⟨high, low⟩ | ⟨-, order⟩ := h
  · exact absurd (high.symm.trans (same.trans low)) (by decide)
  · unfold NoticeEntry.key
    omega

theorem SentBefore.isHigh_of {e x : NoticeEntry} (h : SentBefore q e x) (high : q.isHigh x = true) : q.isHigh e = true := by
  obtain ⟨first, -⟩ | ⟨same, -⟩ := h
  · exact first
  · exact same.trans high

/-- The entry that precedes all others is the one taken (R177). -/
theorem nextNotice_eq_some (order : q.notices.Pairwise fun a b => a.key < b.key) {e : NoticeEntry} (he : e ∈ q.notices)
    (first : ∀ x ∈ q.notices, x = e ∨ SentBefore q e x) : q.nextNotice = some e := by
  unfold PortState.nextNotice
  rcases found : q.notices.find? q.isHigh with _ | y
  · have low (x : NoticeEntry) (hx : x ∈ q.notices) : q.isHigh x = false := by
      simpa using List.find?_eq_none.mp found x hx
    rcases list : q.notices with _ | ⟨y, rest⟩
    · rw [list] at he
      cases he
    · rw [list] at order
      obtain ⟨before, -⟩ := List.pairwise_cons.mp order
      have hy : y ∈ q.notices := by rw [list]; exact List.mem_cons_self
      rcases first y hy with rfl | sent
      · rfl
      · rw [list] at he
        rcases List.mem_cons.mp he with rfl | he
        · rfl
        · have := sent.key_lt ((low e (by rw [list]; exact List.mem_cons_of_mem _ he)).trans (low y hy).symm)
          have := before e he
          omega
  · obtain ⟨high, front, back, list, none⟩ := List.find?_eq_some_iff_append.mp found
    rcases first y (by simp [list]) with rfl | sent
    · rfl
    · have highE := sent.isHigh_of high
      have less := sent.key_lt (highE.trans high.symm)
      rw [list] at he order
      obtain ⟨-, behind, -⟩ := List.pairwise_append.mp order
      obtain ⟨before, -⟩ := List.pairwise_cons.mp behind
      rcases List.mem_append.mp he with he | he
      · have low := none e he
        rw [highE] at low
        cases low
      · rcases List.mem_cons.mp he with rfl | he
        · rfl
        · have := before e he
          omega

theorem noticeFrame_eq (e : NoticeEntry) : noticeFrame e =
    let detail := detailBytes e.detail
    let counted : List Byte := 11 :: 0x00 :: 0xFE :: BitVec.ofNat 8 (kindNo e.detail) :: laneByte e.lane ::
      BitVec.ofNat 8 e.count :: (detail ++ List.replicate (6 - detail.length) 0)
    0xA7 :: (counted ++ crcBytes counted) := by
  have bytes := detailBytes_length_le e.detail
  have length : (0x00 :: 0xFE :: noticeBody e).length = 11 := by
    simp only [noticeBody, List.length_cons, List.length_append, List.length_replicate, List.length_nil]
    omega
  rw [noticeFrame, frameBytes, length]
  rfl

/-- Entries of distinct keys are told apart by their keys. -/
theorem filter_key_eq (order : q.notices.Pairwise fun a b => a.key < b.key) {e : NoticeEntry} (he : e ∈ q.notices) :
    q.notices.filter (·.key != e.key) = q.notices.filter fun x => x != e := by
  refine List.filter_congr fun x hx => ?_
  have distinct : (q.notices.map (·.key)).Nodup := List.pairwise_map.mpr (order.imp ne_of_lt)
  have same : x.key = e.key ↔ x = e := ⟨fun same => List.inj_on_of_nodup_map distinct hx he same, congrArg _⟩
  rw [bne, bne, Bool.eq_iff_iff]
  simp [same]

end

end Sys2Proof.Machine

section
open Sys2Proof Sys2Proof.Machine

/-- Settles O10: what a posting does to the entry of its kind and lane, and to every other. -/
theorem postingsCoalesce : Obligations.PostingsCoalesce := by
  refine ⟨fun q l d order => ⟨fun lost => ?_, fun keeps => ?_⟩, fun s l d => rfl⟩
  · rw [PortState.post, lost]
    rfl
  · rw [PortState.post, if_pos keeps]
    have own := findNotice_insertNotice_self { lane := l, detail := d, count := 1 } order
    refine ⟨insertNotice_pairwise _ order, ⟨fun fresh => ?_, fun x found => ?_⟩, fun k other =>
      findNotice_insertNotice_ne _ _ other, rfl⟩
    · rw [show findNotice q.notices _ = none from fresh] at own
      exact own
    · rw [show findNotice q.notices _ = some x from found] at own
      exact own

/-- Settles O9: the frame of the oldest reply, its status byte a sum of its fields. -/
theorem repliesAreSentOldestFirst : Obligations.RepliesAreSentOldestFirst := by
  refine ⟨fun s p r a => rfl, fun s p => ⟨fun empty => ?_, fun r rest queue => ?_⟩⟩
  · simp [exec, execTransmitReply, empty]
  · simp only [exec, execTransmitReply, queue]
    refine congrArg Host.Outcome.next (State.modPort_congr ?_)
    rw [replyFrame_eq]

/-- Settles O11: in a pending set in order, the first HIGH entry, or the first, precedes all others. -/
theorem noticesAreSentInOrder : Obligations.NoticesAreSentInOrder := by
  intro s p q hq
  subst hq
  refine ⟨fun waits => ?_, fun sent free order e he first => ?_⟩
  · rcases waits with queued | empty | pending
    · simp [exec, execTransmitNotice, queued]
    · simp [exec, execTransmitNotice, PortState.nextNotice, empty]
    · simp [exec, execTransmitNotice, pending]
  · have next := nextNotice_eq_some order he first
    have taken : exec (.transmitNotice p) s = .next (s.modPort p fun q =>
        { q with notices := q.notices.filter (·.key != e.key), onLine := some (noticeFrame e) }) := by
      simp [exec, execTransmitNotice, sent, free, next]
    rw [taken]
    refine congrArg Host.Outcome.next (State.modPort_congr ?_)
    rw [filter_key_eq order he, noticeFrame_eq]

end

namespace Sys2Proof.Machine

section
variable {s t : State} {l : Lane} {p : Port} {st : Store}

/-! ### Banks -/

theorem Store.get_setBank (st : Store) (k j : Fin 8) (b : Bank) :
    (st.setBank k b).banks.get j = if j = k then b else st.banks.get j := by
  by_cases same : j = k
  · subst same
    simp [Store.setBank, Vector.get_eq_getElem]
  · have apart : k.val ≠ j.val := fun h => same (Fin.ext h.symm)
    simp [Store.setBank, Vector.get_eq_getElem, same, apart]

theorem get_map {α β : Type} {n : Nat} (v : Vector α n) (f : α → β) (k : Fin n) : (v.map f).get k = f (v.get k) := by
  simp [Vector.get_eq_getElem]

/-! ### The store's messages -/

theorem storeStatusMessage_pool (s : State) (p : Port) :
    storeStatusMessage s p [0] = (s, .ok s.store.poolView) := rfl

theorem storeStatusMessage_banks (s : State) (p : Port) :
    storeStatusMessage s p [1] = (s, .ok s.store.banksView) := rfl

theorem storeStatusMessage_bad (s : State) (p : Port) {v : Byte} (h : 2 ≤ v.toNat) :
    storeStatusMessage s p [v] = (s, .refuse .badArgument) := by
  dsimp only [storeStatusMessage]
  rw [if_neg (by rintro rfl; simp at h), if_neg (by rintro rfl; simp at h)]

/-- The pool view, field by field (R182). -/
theorem Store.poolView_eq (st : Store) : st.poolView =
    let lanes (v : PerLane Nat) : List Byte := be24 v.l1 ++ be24 v.l2 ++ be24 v.l3 ++ be24 v.l4
    0 :: (be24 (freeList st.free).length ++ lanes st.budget ++ lanes st.inUse ++
      (List.finRange 8).map fun k => armByte (st.banks.get k).arm) := by
  have lanes (v : PerLane Nat) : allLanes.flatMap (fun l => be24 (v.get l)) = be24 v.l1 ++ be24 v.l2 ++ be24 v.l3 ++ be24 v.l4 := by
    simp [allLanes, PerLane.get]
  rw [Store.poolView, lanes, lanes, freeCount_eq_length]
  rfl

@[simp] theorem rateOf_ofNat (r : Fin 8) : rateOf (BitVec.ofNat 8 r.val) = some r := by revert r; decide

@[simp] theorem errSizeOf_errSizeByte (z : ErrSize) : errSizeOf (errSizeByte z) = some z := by cases z <;> decide

@[simp] theorem errFieldOf_errFieldByte (f : ErrField) : errFieldOf (errFieldByte f) = some f := by cases f <;> decide

theorem injectMessage_apply (s : State) (p : Port) (k : Fin 8) (z : ErrSize) (f : ErrField) :
    injectMessage s p [BitVec.ofNat 8 k.val, errSizeByte z, errFieldByte f] =
      if (s.store.banks.get k).arm.isSome then (s, .refuse .busy)
      else ({ s with store := s.store.setBank k { s.store.banks.get k with arm := some { size := z, field := f } } },
        .ok [BitVec.ofNat 8 k.val, errSizeByte z, errFieldByte f]) := by
  simp only [injectMessage, bankOfByte, rateOf_ofNat, errSizeOf_errSizeByte, errFieldOf_errFieldByte]

/-! ### The error map -/

/-- The entry of an address in an error map. -/
def findErr (m : List (Nat × WordErr)) (a : Nat) : Option (Nat × WordErr) := m.find? fun y => y.1 == a

theorem errAt_eq (st : Store) (a : Nat) : errAt st a = (findErr st.errs a).map (·.2) := rfl

theorem findErr_cons (y : Nat × WordErr) (m : List (Nat × WordErr)) (a : Nat) :
    findErr (y :: m) a = if y.1 = a then some y else findErr m a := by
  unfold findErr
  rw [List.find?_cons]
  by_cases here : y.1 = a
  · simp [here]
  · rw [if_neg here, beq_false_of_ne here]

/-- An error put at an address is the one that the address holds; the other addresses keep theirs. -/
theorem findErr_insertErr (a x : Nat) (e : WordErr) (m : List (Nat × WordErr)) :
    findErr (insertErr a e m) x = if a = x then some (a, e) else findErr m x := by
  induction m with
  | nil => rw [insertErr, findErr_cons]
  | cons y m ih =>
    unfold insertErr
    by_cases before : a < y.1
    · rw [if_pos before, findErr_cons]
    · rw [if_neg before]
      by_cases equal : a = y.1
      · rw [if_pos equal, findErr_cons, findErr_cons, ← equal]
        split <;> rfl
      · rw [if_neg equal, findErr_cons, findErr_cons, ih]
        by_cases here : a = x
        · rw [if_pos here, if_pos here, if_neg (by omega)]
        · rw [if_neg here, if_neg here]

/-- The errors outside a page. -/
theorem findErr_outside (m : List (Nat × WordErr)) (p : PageNo) (x : Nat) :
    findErr (m.filter fun e => pageOf e.1 != p) x = if x / 32768 = p then none else findErr m x := by
  induction m with
  | nil => simp [findErr]
  | cons y m ih =>
    have page : (pageOf y.1 != p) = true ↔ ¬y.1 / 32768 = p := by simp [pageOf, Config.wordsPerPage]
    by_cases outside : y.1 / 32768 = p
    · rw [List.filter_cons, if_neg (page.not.mpr (not_not.mpr outside)), ih, findErr_cons]
      by_cases here : y.1 = x
      · rw [if_pos (here ▸ outside), if_pos (here ▸ outside)]
      · rw [if_neg here]
    · rw [List.filter_cons, if_pos (page.mpr outside), findErr_cons, findErr_cons, ih]
      by_cases here : y.1 = x
      · rw [if_pos here, if_pos here, if_neg (here ▸ outside)]
      · rw [if_neg here, if_neg here]

theorem Store.writePage_of_clear {st : Store} {p : PageNo} (clear : (st.banks.get (Fin.ofNat 8 p)).arm = none) :
    st.writePage p = { st with errs := st.errs.filter fun e => pageOf e.1 != p } := by
  unfold Store.writePage
  dsimp only
  rw [show (st.banks.get (bankOf p)).arm = none from clear]

theorem Store.writePage_of_armed {st : Store} {p : PageNo} {e : WordErr}
    (armed : (st.banks.get (Fin.ofNat 8 p)).arm = some e) :
    st.writePage p = { st.setBank (Fin.ofNat 8 p) { st.banks.get (Fin.ofNat 8 p) with arm := none } with
      errs := insertErr (p * 32768) e (st.errs.filter fun e => pageOf e.1 != p) } := by
  unfold Store.writePage
  dsimp only
  rw [show (st.banks.get (bankOf p)).arm = some e from armed]
  rfl

/-- What a completed page write leaves at each address (R35, R40). -/
theorem errAt_writePage (st : Store) (p : PageNo) (a : Nat) : errAt (st.writePage p) a =
    if a / 32768 = p then if a = p * 32768 then (st.banks.get (Fin.ofNat 8 p)).arm else none else errAt st a := by
  have word0 : p * 32768 / 32768 = p := Nat.mul_div_cancel p (by decide)
  rcases arm : (st.banks.get (Fin.ofNat 8 p)).arm with _ | e
  · rw [Store.writePage_of_clear arm, errAt_eq, errAt_eq, findErr_outside]
    split_ifs <;> rfl
  · rw [Store.writePage_of_armed arm, errAt_eq, errAt_eq, findErr_insertErr, findErr_outside]
    by_cases first : p * 32768 = a
    · rw [if_pos first, if_pos (first ▸ word0), if_pos first.symm]
      rfl
    · rw [if_neg first, if_neg (Ne.symm first)]
      split_ifs <;> rfl

theorem banks_get_writePage (st : Store) (p : PageNo) (k : Fin 8) : (st.writePage p).banks.get k =
    if k = Fin.ofNat 8 p then { st.banks.get k with arm := none } else st.banks.get k := by
  rcases arm : (st.banks.get (Fin.ofNat 8 p)).arm with _ | e
  · rw [Store.writePage_of_clear arm]
    split
    · next same => rw [same, ← arm]
    · rfl
  · rw [Store.writePage_of_armed arm]
    show (st.setBank _ _).banks.get k = _
    rw [Store.get_setBank]
    split
    · next same => rw [same]
    · rfl

theorem Store.writePage_eq (st : Store) (p : PageNo) :
    st.writePage p = { st with banks := (st.writePage p).banks, errs := (st.writePage p).errs } := by
  rcases arm : (st.banks.get (Fin.ofNat 8 p)).arm with _ | e
  · rw [Store.writePage_of_clear arm]
  · rw [Store.writePage_of_armed arm]
    rfl

theorem pageWriteComplete_of_none (h : (s.body? l).bind LaneBody.nextVideoPage = none) :
    exec (.pageWriteComplete l) s = .next s := by
  simp only [exec, execPageWriteComplete, h]

theorem pageWriteComplete_of_some {b : LaneBody} {f : InArrival} {p : PageNo} (hb : s.body? l = some b)
    (hf : b.intake.arrival = some f) (page : b.nextVideoPage = some p) :
    exec (.pageWriteComplete l) s = .next (({ s with store := s.store.writePage p } : State).setBody l
      (some { b with intake.arrival := some { f with written := f.written + 1 } })) := by
  have here : ({ s with store := s.store.writePage p } : State).body? l = some b := hb
  simp only [exec, execPageWriteComplete, hb, Option.bind_some, page, State.modBody_of_some _ _ _ here, hf, Option.map_some]

/-! ### Reading errors -/

/-- How many of the errors met are of a sort. -/
def errCount (es : List WordErr) (sort : WordErr → Bool) : Nat := (es.filter sort).length

theorem satAdd_satAdd (cap x m n : Nat) : satAdd cap (satAdd cap x m) n = satAdd cap x (m + n) := by
  unfold satAdd
  omega

/-- A bank with errors read counts each of them once (R36, R38). -/
theorem Bank.foldl_read (es : List WordErr) (b : Bank) : es.foldl Bank.read b =
    { correctedData := satAdd 65535 b.correctedData (errCount es fun e => e.size == .single && e.field == .data)
      correctedCheck := satAdd 65535 b.correctedCheck (errCount es fun e => e.size == .single && e.field == .check)
      uncorrectable := satAdd 65535 b.uncorrectable (errCount es fun e => e.size == .double), arm := b.arm } := by
  induction es generalizing b with
  | nil => simp [errCount]
  | cons e es ih =>
    rw [List.foldl_cons, ih]
    obtain ⟨size, field⟩ := e
    cases size <;> cases field <;>
      simp [errCount, Bank.read, satAdd_satAdd, Nat.add_comm 1]

/-- The errors of one bank are read one after another. -/
def State.readErrs (s : State) (k : Fin 8) (es : List WordErr) : State := es.foldl (fun u e => u.readErr k e) s

theorem State.readPage_eq (s : State) (p : PageNo) : s.readPage p =
    s.readErrs (Fin.ofNat 8 p) ((s.store.errs.filter fun e => e.1 / 32768 == p).map (·.2)) := by
  rw [State.readErrs, List.foldl_map]
  rfl

/-- What reading one error does: its bank counts it, and an uncorrectable one is posted. -/
theorem State.readErr_eq (s : State) (k : Fin 8) (e : WordErr) : s.readErr k e =
    { s with
      store := s.store.setBank k ((s.store.banks.get k).read e)
      link := if e.size == .double then (s.post none (.storeError k)).link else s.link } := by
  obtain ⟨size, field⟩ := e
  cases size <;> rfl

theorem Store.setBank_setBank (st : Store) (k : Fin 8) (x y : Bank) : (st.setBank k x).setBank k y = st.setBank k y := by
  simp [Store.setBank]

theorem Store.setBank_get (st : Store) (k : Fin 8) : st.setBank k (st.banks.get k) = st := by
  simp [Store.setBank, Vector.get_eq_getElem]

/-- The postings that n uncorrectable errors of a bank make (R37). -/
def errorPosts (k : Fin 8) (n : Nat) : List (Option Lane × Detail) := List.replicate n (none, .storeError k)

theorem errorPosts_succ (k : Fin 8) (n : Nat) : errorPosts k (n + 1) = (none, .storeError k) :: errorPosts k n := rfl

/-- What reading errors does: their bank counts them, and each uncorrectable one is posted (R36 to R38). -/
theorem State.readErrs_eq (s : State) (k : Fin 8) (es : List WordErr) : s.readErrs k es =
    { s with
      store := s.store.setBank k (es.foldl Bank.read (s.store.banks.get k))
      link := (s.postAll (errorPosts k (errCount es fun e => e.size == .double))).link } := by
  induction es generalizing s with
  | nil =>
    rw [List.foldl_nil, Store.setBank_get]
    rfl
  | cons e es ih =>
    rw [State.readErrs, List.foldl_cons, ← State.readErrs, ih, State.readErr_eq]
    simp only [Store.setBank_setBank, Store.get_setBank, if_true, List.foldl_cons]
    congr 1
    rcases size : e.size with _ | _
    · have posts : errCount (e :: es) (fun e => e.size == .double) = errCount es fun e => e.size == .double := by
        simp [errCount, size]
      rw [posts]
      refine State.postAll_link_congr ?_ _
      rfl
    · have posts : errCount (e :: es) (fun e => e.size == .double) = (errCount es fun e => e.size == .double) + 1 := by
        simp [errCount, size]
      rw [posts, errorPosts_succ, postAll_cons]
      refine State.postAll_link_congr ?_ _
      rfl

theorem postAll_errorPosts (s : State) (k : Fin 8) (n : Nat) :
    s.postAll (errorPosts k n) = (List.replicate n ()).foldl (fun u _ => u.post none (.storeError k)) s := by
  induction n generalizing s with
  | zero => rfl
  | succ n ih => exact ih _

end

end Sys2Proof.Machine

section
open Sys2Proof Sys2Proof.Machine

/-- Settles O21, from what the write leaves at each address and in each bank. -/
theorem pageWriteConsumesTheArm : Obligations.PageWriteConsumesTheArm := by
  refine ⟨fun st p _ => ⟨fun a outside => ?_, fun a inside => ?_, banks_get_writePage st p, Store.writePage_eq st p⟩,
    fun s l => ⟨fun b f p hb hf raster page => ?_, pageWriteComplete_of_none⟩⟩
  · rw [errAt_writePage, if_neg outside]
  · rw [errAt_writePage, if_pos inside]
  · refine pageWriteComplete_of_some hb hf ?_
    rw [LaneBody.nextVideoPage, hf, Option.bind_some, if_pos raster, page]

/-- Settles O22: the errors of a page are read in the order of the map, all from the page's bank. -/
theorem pageReadsCountTheirErrors : Obligations.PageReadsCountTheirErrors := by
  intro s p here k n raise b t
  have read : t = _ := (State.readPage_eq s p).trans (State.readErrs_eq s k here)
  refine ⟨fun j => ?_, ?_, ?_, ?_⟩
  · rw [read]
    show (s.store.setBank k _).banks.get j = _
    rw [Store.get_setBank, Bank.foldl_read]
    rfl
  · rw [read, postAll_errorPosts]
    rfl
  · rw [read]
    rfl
  · simp only [Store.pageBad, pageOf, Config.wordsPerPage, List.any_eq_true, Bool.and_eq_true, beq_iff_eq, here,
      List.mem_map, List.mem_filter]
    constructor
    · rintro ⟨e, he, page, double⟩
      exact ⟨e.2, ⟨e, ⟨he, page⟩, rfl⟩, double⟩
    · rintro ⟨_, ⟨e, ⟨he, page⟩, rfl⟩, double⟩
      exact ⟨e, he, page, double⟩

/-- Settles O20, message by message. -/
theorem storeMessagesReportAndSet : Obligations.StoreMessagesReportAndSet := by
  refine fun s p r => ⟨fun asks => ?_, fun asks => ?_, fun v hv asks => ?_, fun asks => ⟨s.store.banks.map Bank.clearCounts, ?_,
    get_map s.store.banks Bank.clearCounts⟩, fun k size field asks => ⟨fun clear => ?_, fun set => ?_⟩⟩
  · obtain ⟨_, code, _⟩ := id asks
    refine congrArg Host.Outcome.next (State.execute_asksEither asks (hasCode_of_code code) rfl
      ((storeStatusMessage_pool _ p).trans ?_))
    rw [Store.poolView_eq]
    rfl
  · obtain ⟨_, code, _⟩ := id asks
    exact congrArg Host.Outcome.next (State.execute_asksEither asks (hasCode_of_code code) rfl (storeStatusMessage_banks _ p))
  · obtain ⟨_, code, _⟩ := id asks
    exact congrArg Host.Outcome.next (State.execute_asksEither asks (hasCode_of_code code) rfl (storeStatusMessage_bad _ p hv))
  · obtain ⟨_, _, code, _⟩ := id asks
    exact congrArg Host.Outcome.next (State.execute_asks asks (hasCode_of_code code) rfl rfl)
  · obtain ⟨_, _, code, _⟩ := id asks
    refine congrArg Host.Outcome.next (State.execute_asks asks (hasCode_of_code code) rfl
      ((injectMessage_apply _ p k size field).trans (if_neg ?_)))
    rw [State.takeRequest_store, clear]
    exact Bool.false_ne_true
  · obtain ⟨_, _, code, _⟩ := id asks
    exact congrArg Host.Outcome.next (State.execute_asks asks (hasCode_of_code code) rfl
      ((injectMessage_apply _ p k size field).trans (if_pos (Option.isSome_iff_ne_none.mpr set))))

end

namespace Sys2Proof.Machine

section
variable {s t : State} {p : Port} {q : PortState}

/-! ### Requests that a role permits -/

/-- A request that its port's role permits is answered by its message's handler. -/
theorem State.execute_permitted {r : Request} {code : Byte} {body : List Byte} {isRow : Request → Bool}
    {lengthOk : Nat → Bool} {permitted : State → Port → List Byte → Bool} {h : Handler} {effect : State → State}
    {result : Result} {answer : List Byte} (asks : AsksEither s p r code body) (row : isRow r = true)
    (length : lengthOk body.length = true) (may : permitted (s.takeRequest p) p body = true)
    (handled : h (s.takeRequest p) p body = (effect (s.takeRequest p), { result := result, body := answer })) :
    s.execute isRow lengthOk permitted h = served s p r effect result answer := by
  obtain ⟨serves, -, rfl⟩ := asks
  exact State.execute_served serves row length may handled

/-- A code that is not listed is answered UNKNOWN_MESSAGE, whatever the body and the sender (R170, check 1). -/
theorem unknownMessage_answered {r : Request} (serves : Serves s p r) (unlisted : r.code ∉ requestCodes) :
    exec .unknownMessage s = .next (served s p r id .unknownMessage []) := by
  refine congrArg Host.Outcome.next (State.execute_served serves ?_ rfl rfl rfl)
  simp [List.contains_eq_mem, unlisted]

/-! ### The settings of a port's kinds (R176) -/

theorem kindSettingOf_kindSettingByte (k : KindSetting) : kindSettingOf (kindSettingByte k) = some k := by
  obtain ⟨enabled, high⟩ := k
  cases enabled <;> cases high <;> decide

theorem mapM_kindSettingOf (ks : List KindSetting) : (ks.map kindSettingByte).mapM kindSettingOf = some ks := by
  induction ks with
  | nil => rfl
  | cons k ks ih => simp [List.mapM_cons, kindSettingOf_kindSettingByte, ih]

theorem kindSettingsOf_bytes (ks : Vector KindSetting 13) :
    kindSettingsOf (ks.toList.map kindSettingByte) = some ks := by
  have length : ks.toList.length = 13 := by simp
  rw [kindSettingsOf, mapM_kindSettingOf]
  refine (dif_pos length).trans (congrArg some ?_)
  exact Vector.toArray_inj.mp Array.toArray_toList

theorem setNoticesMessage_apply (s : State) (p q : Port) (ks : Vector KindSetting 13) :
    setNoticesMessage s p (portByte q :: ks.toList.map kindSettingByte) =
      (s.modPort q (·.setKinds ks), .ok (portByte q :: ks.toList.map kindSettingByte)) := by
  simp only [setNoticesMessage, portOf_portByte, kindSettingsOf_bytes]

/-! ### The unit's messages -/

theorem State.counterBytes_takeRequest (s : State) (p q : Port) :
    ((s.takeRequest p).link.ports.get q).counterBytes = (s.link.ports.get q).counterBytes := by
  cases p <;> cases q <;> rfl

theorem State.unitView_takeRequest (s : State) (p : Port) : (s.takeRequest p).unitView = s.unitView := by
  simp only [State.unitView, State.counterBytes_takeRequest, State.mode?_takeRequest]
  rfl

/-- The flags byte of UNIT_STATUS as a sum of its bits (R181). -/
theorem State.unitFlags_eq (s : State) : s.unitFlags = BitVec.ofNat 8
    ((if s.link.controller == .a then 1 else 0) + (if !s.link.takeoverAllowed then 2 else 0) +
      (if s.link.lineRate == .baud115200 then 4 else 0) + (if s.tick.locked.isSome then 8 else 0)) := by
  have bit (x : Bool) (n : Nat) : x.toNat * n = if x then n else 0 := by cases x <;> simp
  rw [State.unitFlags, bitsByte_four]
  simp only [bit]

theorem unitStatusMessage_apply (s : State) (p : Port) (clear : Bool) : unitStatusMessage s p [boolByte clear] =
    (if clear then (s.modPort .a PortState.clearCounters).modPort .b PortState.clearCounters else s, .ok s.unitView) := by
  simp only [unitStatusMessage, boolOf_boolByte]

/-! ### Roles -/

theorem takeControlMessage_apply (s : State) (p : Port) : takeControlMessage s p [] =
    if s.link.controller = p then (s, .ok [])
    else if s.link.takeoverAllowed = false then (s, .refuse .takeoverLocked)
    else (({ s with link := { s.link with controller := p } } : State).modPort p.other fun q =>
      { q with notices := insertNotice { lane := none, detail := .controlLost p, count := 1 } q.notices }, .ok []) := by
  unfold takeControlMessage State.controls
  simp only [beq_iff_eq]
  split
  · rfl
  · split <;> split <;> simp_all [State.modPort, State.postOn, PortState.post, PortState.keeps, kindNo]

theorem setTakeoverMessage_apply (s : State) (p : Port) (locked : Bool) : setTakeoverMessage s p [boolByte locked] =
    ({ s with link := { s.link with takeoverAllowed := !locked } }, .ok [boolByte locked]) := by
  simp only [setTakeoverMessage, boolOf_boolByte]

/-! ### Restart pending -/

theorem nextRequest_of_pending (pending : s.link.restartPending.isSome = true) : s.nextRequest = none := by
  simp [State.nextRequest, LinkUnit.nextPort, pending]

theorem receiveByte_of_pending (pending : s.link.restartPending.isSome = true) (p : Port) (b : Byte) (stop : Bool) :
    exec (.receiveByte p b stop) s = .next s := by
  simp [exec, execReceiveByte, pending]

end

end Sys2Proof.Machine

section
open Sys2Proof Sys2Proof.Machine

/-- Settles O12: the byte of each setting reads as that setting. -/
theorem setNoticesReplacesThePortsKinds : Obligations.SetNoticesReplacesThePortsKinds := by
  intro s p q r ks asks may
  obtain ⟨_, code, _⟩ := id asks
  refine congrArg Host.Outcome.next (State.execute_permitted asks (hasCode_of_code code) (by simp [lengthIs]) ?_
    (setNoticesMessage_apply _ p q ks))
  rcases may with controls | rfl
  · simp [namesOwnPort, State.controls, controls]
  · simp [namesOwnPort]

/-- Settles O13: the views are those of the state before the request is taken. -/
theorem unitQueriesAnswer : Obligations.UnitQueriesAnswer := by
  refine fun s p r => ⟨fun asks => ?_, fun clear asks may => ?_, fun serves unlisted => ?_⟩
  · obtain ⟨_, code, _⟩ := id asks
    exact congrArg Host.Outcome.next (State.execute_asksEither asks (hasCode_of_code code) rfl rfl)
  · obtain ⟨_, code, _⟩ := id asks
    refine congrArg Host.Outcome.next ((State.execute_permitted asks (hasCode_of_code code) rfl ?_
      (unitStatusMessage_apply _ p clear)).trans ?_)
    · cases clear with
      | false => simp [clearNeedsController, boolByte]
      | true => simp [clearNeedsController, State.controls, may rfl]
    · rw [State.unitView_takeRequest, State.unitView, State.unitFlags_eq]
      rfl
  · exact unknownMessage_answered serves unlisted

/-- Settles O14: TAKE_CONTROL by the role and the takeover flag; the flag at the resets. -/
theorem rolesChangeHands : Obligations.RolesChangeHands := by
  refine fun s p r => ⟨fun asks => ?_, fun locked asks => ?_, fun v hv asks => ?_, fun v asks observer => ?_, fun t x reset => ?_,
    fun t effect => ?_⟩
  · obtain ⟨_, code, _⟩ := id asks
    have handled := takeControlMessage_apply (s.takeRequest p) p
    split
    · next controls =>
      rw [if_pos (by exact controls)] at handled
      exact congrArg Host.Outcome.next (State.execute_asksEither asks (hasCode_of_code code) rfl handled)
    · next observer =>
      rw [if_neg (by exact observer)] at handled
      split
      · next closed =>
        rw [if_pos (by exact closed)] at handled
        exact congrArg Host.Outcome.next (State.execute_asksEither asks (hasCode_of_code code) rfl handled)
      · next opened =>
        rw [if_neg (by exact opened)] at handled
        exact congrArg Host.Outcome.next (State.execute_asksEither asks (hasCode_of_code code) rfl handled)
  · obtain ⟨_, _, code, _⟩ := id asks
    exact congrArg Host.Outcome.next (State.execute_asks asks (hasCode_of_code code) rfl (setTakeoverMessage_apply _ p locked))
  · obtain ⟨_, _, code, _⟩ := id asks
    refine congrArg Host.Outcome.next (State.execute_asks asks (hasCode_of_code code) rfl ?_)
    simp only [setTakeoverMessage, boolOf_eq_none hv]
    rfl
  · obtain ⟨_, code, _⟩ := id asks
    exact congrArg Host.Outcome.next (State.execute_observer asks observer (hasCode_of_code code) rfl)
  · rw [link_of_reset reset]
    rfl
  · rcases restartEffect_cases effect with rfl | ⟨p, -, -, -, kept⟩
    · rfl
    · exact kept

/-- Settles O15: while restart is pending nothing is taken, and the effect waits for the replies. -/
theorem restartTakesTwoSteps : Obligations.RestartTakesTwoSteps := by
  refine fun s p => ⟨fun r asks => ⟨?_, nextRequest_of_pending rfl, receiveByte_of_pending rfl⟩, restartEffect_of_none,
    restartEffect_of_unsent, fun pending sent => (restartEffect_of_sent pending sent).trans rfl⟩
  obtain ⟨_, _, code, _⟩ := id asks
  exact congrArg Host.Outcome.next (State.execute_asks asks (hasCode_of_code code) rfl rfl)

end

namespace Sys2Proof.Machine

section
variable {s t : State} {p : Port} {q : PortState}

/-! ### The receiver, state by state (R165) -/

theorem receiveByte_of_free (free : s.link.restartPending = none) (p : Port) (b : Byte) (stop : Bool) :
    exec (.receiveByte p b stop) s = .next (s.modPort p fun q => q.receive b stop) := by
  simp [exec, execReceiveByte, free]

/-- A byte received by a port in a known state changes it as its state's row says. -/
theorem receiveByte_eq {b : Byte} {stop : Bool} {f : PortState → PortState} (free : s.link.restartPending = none)
    (h : (s.link.ports.get p).receive b stop = f (s.link.ports.get p)) :
    exec (.receiveByte p b stop) s = .next (s.modPort p f) := by
  rw [receiveByte_of_free free]
  exact congrArg Host.Outcome.next (State.modPort_congr h)

theorem State.modPort_self (s : State) (p : Port) {f : PortState → PortState}
    (h : f (s.link.ports.get p) = s.link.ports.get p) : s.modPort p f = s := by
  rw [State.modPort, h, PerPort.set_get]

theorem PortState.receive_hunting (h : q.rx = .hunting) (b : Byte) (stop : Bool) :
    q.receive b stop = if b = 0xA7 ∧ stop = false then { q with rx := .length } else q := by
  unfold PortState.receive
  rw [h]
  cases stop <;> simp

theorem PortState.receive_stop (h : q.rx ≠ .hunting) (b : Byte) : q.receive b true = q.frameErr .hunting := by
  unfold PortState.receive
  rcases rx : q.rx with _ | _ | ⟨len, got⟩ | ⟨len, got, _ | c⟩
  · exact absurd rx h
  all_goals rfl

theorem PortState.receive_length (h : q.rx = .length) (b : Byte) : q.receive b false =
    if 2 ≤ b.toNat ∧ b.toNat ≤ 60 then { q with rx := .content b [] }
    else q.frameErr (if b = 0xA7 then .length else .hunting) := by
  unfold PortState.receive
  rw [h]
  rfl

theorem PortState.receive_content {len : Byte} {got : List Byte} (h : q.rx = .content len got) (b : Byte) :
    q.receive b false = if got.length + 1 < len.toNat then { q with rx := .content len (got ++ [b]) }
      else { q with rx := .check len (got ++ [b]) none } := by
  unfold PortState.receive
  rw [h]
  by_cases more : got.length + 1 < len.toNat
  · simp [more, Nat.not_le.mpr more]
  · simp [more, Nat.not_lt.mp more]

theorem PortState.receive_check {len : Byte} {got : List Byte} (h : q.rx = .check len got none) (b : Byte) :
    q.receive b false = { q with rx := .check len got (some b) } := by
  unfold PortState.receive
  rw [h]
  rfl

theorem PortState.receive_last {len c1 : Byte} {tag code : Byte} {body : List Byte}
    (h : q.rx = .check len (tag :: code :: body) (some c1)) (c2 : Byte) :
    q.receive c2 false = if crcBytes (len :: tag :: code :: body) = [c1, c2] then
        { q with rx := .hunting }.offer { tag := tag, code := code, body := body }
      else { q with rx := .hunting, crcError := satAdd 65535 q.crcError 1 } := by
  unfold PortState.receive
  rw [h]
  rfl

theorem gapExpiry_of_hunting (h : (s.link.ports.get p).rx = .hunting) : exec (.gapExpiry p) s = .next s := by
  simp [exec, execGapExpiry, h]

theorem gapExpiry_of_busy (h : (s.link.ports.get p).rx ≠ .hunting) : exec (.gapExpiry p) s =
    .next (s.modPort p fun q => { q with rx := .hunting, gapError := satAdd 65535 q.gapError 1 }) := by
  simp [exec, execGapExpiry, h]

/-- A byte received in HUNTING (R165). -/
theorem receiveByte_hunting (free : s.link.restartPending = none) (h : (s.link.ports.get p).rx = .hunting) (b : Byte)
    (stop : Bool) : exec (.receiveByte p b stop) s =
      .next (if b = 0xA7 ∧ stop = false then s.modPort p fun q => { q with rx := .length } else s) := by
  have received := PortState.receive_hunting h b stop
  split
  · next start =>
    rw [if_pos start] at received
    exact receiveByte_eq free received
  · next start =>
    rw [if_neg start] at received
    rw [receiveByte_of_free free, State.modPort_self s p received]

/-! ### A frame received byte by byte -/

/-- A port that receives bytes one after another. -/
def PortState.receiveAll (q : PortState) (bytes : List Byte) : PortState := bytes.foldl (fun q b => q.receive b false) q

theorem PortState.receiveAll_cons (q : PortState) (b : Byte) (bytes : List Byte) :
    q.receiveAll (b :: bytes) = (q.receive b false).receiveAll bytes := rfl

theorem PortState.receiveAll_append (q : PortState) (xs ys : List Byte) :
    q.receiveAll (xs ++ ys) = (q.receiveAll xs).receiveAll ys := List.foldl_append

theorem State.modPort_modPort (s : State) (p : Port) (f g : PortState → PortState) :
    (s.modPort p f).modPort p g = s.modPort p fun q => g (f q) := by
  simp only [State.modPort, PerPort.get_set_self, PerPort.set_set]

theorem runCommands_receive (bytes : List Byte) (free : s.link.restartPending = none) :
    runCommands (bytes.map fun b => .receiveByte p b false) s = .next (s.modPort p fun q => q.receiveAll bytes) := by
  induction bytes generalizing s with
  | nil => exact congrArg Host.Outcome.next (State.modPort_self s p rfl).symm
  | cons b bytes ih =>
    rw [List.map_cons, runCommands, receiveByte_of_free free]
    exact (ih (s := s.modPort p fun q => q.receive b false) free).trans (congrArg Host.Outcome.next (State.modPort_modPort s p _ _))

/-- The rest of a frame's content is taken up to its length. -/
theorem PortState.receiveAll_content {len : Byte} {got rest : List Byte} (h : q.rx = .content len got)
    (whole : got.length + rest.length = len.toNat) (some : rest ≠ []) :
    q.receiveAll rest = { q with rx := .check len (got ++ rest) none } := by
  induction rest generalizing q got with
  | nil => exact absurd rfl some
  | cons b rest ih =>
    rw [PortState.receiveAll_cons, PortState.receive_content h]
    rw [List.length_cons] at whole
    rcases rest with _ | ⟨c, rest⟩
    · rw [if_neg (by rw [← whole]; simp)]
      rfl
    · rw [if_pos (by rw [← whole]; simp), ih rfl (by rw [← whole]; simp; omega) (by simp), List.append_assoc]
      rfl

/-- A port in HUNTING that receives a request's frame takes the request whole (10.1, R165, R167). -/
theorem PortState.receiveAll_frame (h : q.rx = .hunting) (tag code : Byte) (body : List Byte) (short : body.length ≤ 58) :
    q.receiveAll (frameBytes (tag :: code :: body)) = q.offer { tag := tag, code := code, body := body } := by
  have length : (BitVec.ofNat 8 (tag :: code :: body).length).toNat = body.length + 2 := by
    rw [BitVec.toNat_ofNat, List.length_cons, List.length_cons]
    omega
  unfold frameBytes
  generalize BitVec.ofNat 8 (tag :: code :: body).length = len at length ⊢
  obtain ⟨c1, c2, crc⟩ : ∃ c1 c2, crcBytes (len :: tag :: code :: body) = [c1, c2] := ⟨_, _, rfl⟩
  dsimp only
  rw [crc, PortState.receiveAll_cons, PortState.receive_hunting h, if_pos ⟨rfl, rfl⟩, List.cons_append,
    PortState.receiveAll_cons, PortState.receive_length rfl, if_pos (by omega), PortState.receiveAll_append,
    PortState.receiveAll_content (got := []) (rest := tag :: code :: body) rfl (by rw [length]; exact Nat.zero_add _) (List.cons_ne_nil _ _), PortState.receiveAll_cons,
    PortState.receive_check rfl, PortState.receiveAll_cons, PortState.receive_last rfl, if_pos crc]
  show PortState.offer _ _ = _
  congr 1
  rw [← h]

end

end Sys2Proof.Machine

section
open Sys2Proof Sys2Proof.Machine

/-- Settles O2, row by row of the receiver's table. -/
theorem receiverFollowsItsTable : Obligations.ReceiverFollowsItsTable := by
  refine ⟨fun s p b stop q hq => ⟨fun pending => receiveByte_of_pending pending p b stop, fun free =>
    ⟨fun rx => ?_, fun rx ended => ?_, fun fine => ⟨fun rx => ?_, fun len got rx => ?_, fun len got rx => ?_⟩⟩⟩,
    fun s p len tag code body c1 c2 free rx => ?_, fun s p => ⟨gapExpiry_of_hunting, fun rx => ⟨_, gapExpiry_of_busy rx, rfl,
      fun b free => ?_⟩⟩⟩
  · subst hq
    rw [receiveByte_hunting free rx]
    split <;> rfl
  · subst hq ended
    exact receiveByte_eq free (PortState.receive_stop rx b)
  · subst hq fine
    rw [receiveByte_of_free free]
    split
    · next range => exact congrArg Host.Outcome.next (State.modPort_congr ((PortState.receive_length rx b).trans (if_pos range)))
    · next range => exact congrArg Host.Outcome.next (State.modPort_congr ((PortState.receive_length rx b).trans (if_neg range)))
  · subst hq fine
    rw [receiveByte_of_free free]
    split
    · next more => exact congrArg Host.Outcome.next (State.modPort_congr ((PortState.receive_content rx b).trans (if_pos more)))
    · next whole => exact congrArg Host.Outcome.next (State.modPort_congr ((PortState.receive_content rx b).trans (if_neg whole)))
  · subst hq fine
    exact receiveByte_eq free (PortState.receive_check rx b)
  · refine receiveByte_eq free ((PortState.receive_last rx c2).trans ?_)
    rw [ite_not]
    unfold PortState.offer
    rfl
  · refine (receiveByte_hunting (p := p) ?_ ?_ b false).trans ?_
    · exact free
    · rw [State.ports_modPort_self]
    · simp only [and_true]

/-- Settles O4: the bytes of the frame take the receiver from HUNTING back to HUNTING. -/
theorem requestFrameArrivesWhole : Obligations.RequestFrameArrivesWhole := by
  intro s p tag code body short free rx
  rw [requestCommands, runCommands_receive _ free]
  refine congrArg Host.Outcome.next (State.modPort_congr ?_)
  exact PortState.receiveAll_frame rx tag code body short

end

namespace Sys2Proof.Machine

section
variable {s t : State} {p : Port} {b : Byte}

/-! ### What an operand byte that reads as a value can be (R179) -/

theorem toNat_of_boolOf {x : Bool} (h : boolOf b = some x) : b.toNat ≤ 1 := by
  rw [eq_boolByte_of_boolOf h, toNat_boolByte]
  exact Bool.toNat_le x

theorem toNat_of_portOf {x : Port} (h : portOf b = some x) : b.toNat ≤ 1 := by
  unfold portOf at h
  split_ifs at h with zero one
  · simp [zero]
  · simp [one]

theorem toNat_of_laneOf {l : Lane} (h : laneOf b = some l) : 1 ≤ b.toNat ∧ b.toNat ≤ 4 := by
  have named : laneByte (some l) = b := by simpa using List.find?_some h
  rw [← named]
  cases l <;> decide

theorem toNat_of_rateOf {x : Fin 8} (h : rateOf b = some x) : b.toNat ≤ 7 := by
  unfold rateOf at h
  split_ifs at h
  omega

theorem toNat_of_classOf {x : VideoClass} (h : classOf b = some x) : b.toNat ≤ 2 := by
  have named : classByte x = b := by simpa using List.find?_some h
  rw [← named]
  cases x <;> decide

theorem toNat_of_channelsOf {x : ChannelCount} (h : channelsOf b = some x) : b.toNat ∈ [2, 4, 8, 16] := by
  have named : x.toNat = b.toNat := by simpa using List.find?_some h
  rw [← named]
  cases x <;> decide

theorem toNat_of_packetClassOf {x : PacketClass} (h : packetClassOf b = some x) : b.toNat ≤ 3 := by
  unfold packetClassOf at h
  split_ifs at h with h0 h1 h2 h3
  · simp [h0]
  · simp [h1]
  · simp [h2]
  · simp [h3]

theorem toNat_of_watchActionOf {x : WatchAction} (h : watchActionOf b = some x) : b.toNat ≤ 3 := by
  unfold watchActionOf at h
  split_ifs at h with h0 h1 h2 h3
  · simp [h0]
  · simp [h1]
  · simp [h2]
  · simp [h3]

theorem toNat_of_fillKindOf {x : FillKind} (h : fillKindOf b = some x) : b.toNat ≤ 1 := by
  unfold fillKindOf at h
  split_ifs at h with zero one
  · simp [zero]
  · simp [one]

theorem toNat_of_errSizeOf {x : ErrSize} (h : errSizeOf b = some x) : b.toNat ≤ 1 := by
  unfold errSizeOf at h
  split_ifs at h with zero one
  · simp [zero]
  · simp [one]

theorem toNat_of_errFieldOf {x : ErrField} (h : errFieldOf b = some x) : b.toNat ≤ 1 := by
  unfold errFieldOf at h
  split_ifs at h with zero one
  · simp [zero]
  · simp [one]

theorem toNat_of_lineOf {x : Fin 16} (h : lineOf b = some x) : 1 ≤ b.toNat ∧ b.toNat ≤ 16 := by
  unfold lineOf at h
  split_ifs at h with range
  exact range

theorem toNat_of_inFuncOf {x : InFunc} (h : inFuncOf b = some x) : b.toNat ≤ 6 := by
  have named : inFuncNo x = b.toNat := by simpa using List.find?_some h
  rw [← named]
  exact inFuncNo_le x

theorem toNat_of_laneMaskOf {x : BitVec 4} (h : laneMaskOf b = some x) : b.toNat ≤ 15 := by
  unfold laneMaskOf at h
  split_ifs at h
  omega

theorem toNat_of_kindSettingOf {x : KindSetting} (h : kindSettingOf b = some x) : b.toNat ≤ 3 := by
  unfold kindSettingOf at h
  split_ifs at h
  omega

/-! ### An argument outside its listed values (R6, R170, R179) -/

/-- A message refuses BAD_ARGUMENT a body of a listed length with an argument outside its listed values. -/
def RefusesArguments (code : Byte) (h : Handler) : Prop :=
  ∀ (s : State) (p : Port) (tag : Byte) (body : List Byte), listedLength code body.length = true →
    argumentsOk { tag := tag, code := code, body := body } = false → h s p body = (s, .refuse .badArgument)

theorem RefusesArguments.of_none {code : Byte} {h : Handler}
    (ok : ∀ tag body, argumentsOk { tag := tag, code := code, body := body } = true) : RefusesArguments code h :=
  fun _ _ tag body _ bad => absurd (ok tag body) (by rw [bad]; exact Bool.false_ne_true)

/-- A lane number that is none, or a refusal behind it. -/
theorem withLane_bad {l : Byte} {k : Lane → State × Answer}
    (h : ∀ lane, laneOf l = some lane → k lane = (s, .refuse .badArgument)) :
    withLane s l k = (s, .refuse .badArgument) := by
  unfold withLane
  split
  · rfl
  · next lane hl => exact h lane hl

/-- The one-byte messages whose byte is 0 or 1. -/
theorem RefusesArguments.of_flag {code : Byte} {h : Handler} (row : code ∈ ([0x02, 0x05, 0x07, 0x0A, 0x0E] : List Byte))
    (bad : ∀ (s : State) (p : Port) {v : Byte}, 2 ≤ v.toNat → h s p [v] = (s, .refuse .badArgument)) :
    RefusesArguments code h := by
  intro s p tag body length args
  simp only [List.mem_cons, List.not_mem_nil, or_false] at row
  obtain ⟨v, rfl⟩ : ∃ v, body = [v] := by
    refine List.length_eq_one_iff.mp ?_
    rcases row with rfl | rfl | rfl | rfl | rfl <;> exact beq_iff_eq.mp length
  refine bad s p (Nat.succ_le_of_lt ?_)
  rcases row with rfl | rfl | rfl | rfl | rfl <;> simpa [argumentsOk] using args

/-- The messages whose body is a lane. -/
theorem laneMessage_refusesArguments {code : Byte} (row : code ∈ ([0x21, 0x28, 0x2A, 0x2B, 0x2C, 0x2F] : List Byte))
    (k : State → Lane → State × Answer) : RefusesArguments code (laneMessage k) := by
  intro s p tag body length bad
  simp only [List.mem_cons, List.not_mem_nil, or_false] at row
  obtain ⟨l, rfl⟩ : ∃ l, body = [l] := by
    refine List.length_eq_one_iff.mp ?_
    rcases row with rfl | rfl | rfl | rfl | rfl | rfl <;> exact beq_iff_eq.mp length
  refine withLane_bad fun lane hl => absurd bad ?_
  have range := toNat_of_laneOf hl
  rcases row with rfl | rfl | rfl | rfl | rfl | rfl <;> simp [argumentsOk, range]

/-! #### Bodies of a known length -/

theorem eq_of_length_five {α : Type} {xs : List α} (h : xs.length = 5) : ∃ a b c d e, xs = [a, b, c, d, e] := by
  obtain ⟨a, t, rfl⟩ := List.exists_cons_of_length_eq_add_one h
  obtain ⟨b, c, d, e, rfl⟩ := List.length_eq_four.mp (Nat.succ.inj h)
  exact ⟨a, b, c, d, e, rfl⟩

theorem eq_of_length_seven {α : Type} {xs : List α} (h : xs.length = 7) :
    ∃ a b c d e f g, xs = [a, b, c, d, e, f, g] := by
  obtain ⟨a, t, rfl⟩ := List.exists_cons_of_length_eq_add_one h
  obtain ⟨b, t, rfl⟩ := List.exists_cons_of_length_eq_add_one (Nat.succ.inj h)
  obtain ⟨c, d, e, f, g, rfl⟩ := eq_of_length_five (Nat.succ.inj (Nat.succ.inj h))
  exact ⟨a, b, c, d, e, f, g, rfl⟩

theorem eq_of_length_eight {α : Type} {xs : List α} (h : xs.length = 8) :
    ∃ a b c d e f g i, xs = [a, b, c, d, e, f, g, i] := by
  obtain ⟨a, t, rfl⟩ := List.exists_cons_of_length_eq_add_one h
  obtain ⟨b, c, d, e, f, g, i, rfl⟩ := eq_of_length_seven (Nat.succ.inj h)
  exact ⟨a, b, c, d, e, f, g, i, rfl⟩

theorem eq_of_length_eleven {α : Type} {xs : List α} (h : xs.length = 11) :
    ∃ a b c d e f g i j k l, xs = [a, b, c, d, e, f, g, i, j, k, l] := by
  obtain ⟨a, t, rfl⟩ := List.exists_cons_of_length_eq_add_one h
  obtain ⟨b, t, rfl⟩ := List.exists_cons_of_length_eq_add_one (Nat.succ.inj h)
  obtain ⟨c, t, rfl⟩ := List.exists_cons_of_length_eq_add_one (Nat.succ.inj (Nat.succ.inj h))
  obtain ⟨d, e, f, g, i, j, k, l, rfl⟩ := eq_of_length_eight (Nat.succ.inj (Nat.succ.inj (Nat.succ.inj h)))
  exact ⟨a, b, c, d, e, f, g, i, j, k, l, rfl⟩

/-! #### Each message -/

theorem unitStatusMessage_refusesArguments : RefusesArguments 0x02 unitStatusMessage :=
  .of_flag (by simp) fun s p v hv => by simp only [unitStatusMessage, boolOf_eq_none hv]

theorem setTakeoverMessage_refusesArguments : RefusesArguments 0x05 setTakeoverMessage :=
  .of_flag (by simp) fun s p v hv => by simp only [setTakeoverMessage, boolOf_eq_none hv]

theorem injectMessage_refusesArguments : RefusesArguments 0x09 injectMessage := by
  intro s p tag body length bad
  obtain ⟨k, z, f, rfl⟩ := List.length_eq_three.mp (beq_iff_eq.mp length)
  unfold injectMessage
  dsimp only
  split
  · next bank size field hk hz hf =>
    have := toNat_of_rateOf hk
    have := toNat_of_errSizeOf hz
    have := toNat_of_errFieldOf hf
    simp [argumentsOk, *] at bad
  · rfl

theorem bindInMessage_refusesArguments : RefusesArguments 0x0B bindInMessage := by
  intro s p tag body length bad
  obtain ⟨i, f, m, x, n, rfl⟩ := eq_of_length_five (beq_iff_eq.mp length)
  unfold bindInMessage
  dsimp only
  split
  · next line func mask inverted hi hf hm hx =>
    obtain ⟨low, high⟩ := toNat_of_lineOf hi
    have := toNat_of_inFuncOf hf
    have := toNat_of_laneMaskOf hm
    have := toNat_of_boolOf hx
    simp [argumentsOk, *] at bad
  · rfl

theorem configureMessage_refusesArguments : RefusesArguments 0x20 configureMessage := by
  intro s p tag body length bad
  obtain ⟨l, r, v, c, b2, b1, b0, f, rfl⟩ := eq_of_length_eight (beq_iff_eq.mp length)
  refine withLane_bad fun lane hl => ?_
  split
  · next rate vclass channels force hr hv hc hf =>
    obtain ⟨low, high⟩ := toNat_of_laneOf hl
    have := toNat_of_rateOf hr
    have := toNat_of_classOf hv
    have channels := toNat_of_channelsOf hc
    have := toNat_of_boolOf hf
    simp only [List.mem_cons, List.not_mem_nil, or_false] at channels
    simp [argumentsOk, *] at bad
  · rfl

theorem timingMessage_refusesArguments : RefusesArguments 0x22 timingMessage := by
  intro s p tag body length bad
  obtain ⟨l, t1, t0, d1, d0, c1, c0, rfl⟩ := eq_of_length_seven (beq_iff_eq.mp length)
  refine withLane_bad fun lane hl => ?_
  obtain ⟨low, high⟩ := toNat_of_laneOf hl
  simp [argumentsOk, *] at bad

theorem governorMessage_refusesArguments : RefusesArguments 0x23 governorMessage := by
  intro s p tag body length bad
  obtain ⟨l, t2, t1, t0, m1, m0, q, sp, f1, f0, e, rfl⟩ := eq_of_length_eleven (beq_iff_eq.mp length)
  refine withLane_bad fun lane hl => ?_
  obtain ⟨low, high⟩ := toNat_of_laneOf hl
  simp [argumentsOk, *] at bad

theorem fillMessage_refusesArguments : RefusesArguments 0x26 fillMessage := by
  intro s p tag body length bad
  obtain ⟨l, k, a2, a1, a0, m1, m0, rfl⟩ := eq_of_length_seven (beq_iff_eq.mp length)
  refine withLane_bad fun lane hl => ?_
  split
  · rfl
  · next kind hk =>
    obtain ⟨low, high⟩ := toNat_of_laneOf hl
    have := toNat_of_fillKindOf hk
    simp [argumentsOk, *] at bad

/-- Entries that read as routes have classes within their list. -/
theorem class_of_routeEntriesOf {bytes : List Byte} {es : List RouteEntry} (h : routeEntriesOf bytes = some es) :
    ∀ k, k < bytes.length / 5 → (bytes.getD (5 * k + 4) 0).toNat ≤ 3 := by
  induction bytes using routeEntriesOf.induct generalizing es with
  | case1 => simp
  | case2 lh ll hh hl c rest ih =>
    rw [routeEntriesOf] at h
    obtain ⟨cls, hc, h⟩ := Option.bind_eq_some_iff.mp h
    obtain ⟨more, hm, -⟩ := Option.bind_eq_some_iff.mp h
    rintro (_ | k) hk
    · exact toNat_of_packetClassOf hc
    · refine ih hm k ?_
      simp only [List.length_cons] at hk
      omega
  | case3 bytes _ _ => simp [routeEntriesOf] at h

theorem routesMessage_refusesArguments : RefusesArguments 0x24 routesMessage := by
  intro s p tag body length bad
  obtain ⟨l, d, rest, rfl⟩ : ∃ l d rest, body = l :: d :: rest := by
    rcases body with _ | ⟨l, _ | ⟨d, rest⟩⟩
    · cases length
    · cases length
    · exact ⟨l, d, rest, rfl⟩
  refine withLane_bad fun lane hl => ?_
  split
  · next dflt es hd he =>
    obtain ⟨low, high⟩ := toNat_of_laneOf hl
    have := toNat_of_packetClassOf hd
    have classes := class_of_routeEntriesOf he
    have entries : ∀ k, k < rest.length / 5 → (rest[5 * k + 4]?.getD 0).toNat ≤ 3 := by
      simpa [List.getD_eq_getElem?_getD] using classes
    simp [argumentsOk, *] at bad
    obtain ⟨k, hk, beyond⟩ := bad
    exact absurd (entries k hk) (Nat.not_le.mpr beyond)
  · rfl

/-- Entries that read as watch entries have actions within their list. -/
theorem action_of_watchEntriesOf {bytes : List Byte} {es : List (Nat × WatchEntry)} (h : watchEntriesOf bytes = some es) :
    ∀ k, k < bytes.length / 8 → (bytes.getD (8 * k + 7) 0).toNat ≤ 3 := by
  induction bytes using watchEntriesOf.induct generalizing es with
  | case1 => simp
  | case2 th tl n m0 m1 m2 m3 a rest ih =>
    rw [watchEntriesOf] at h
    obtain ⟨action, ha, h⟩ := Option.bind_eq_some_iff.mp h
    obtain ⟨more, hm, -⟩ := Option.bind_eq_some_iff.mp h
    rintro (_ | k) hk
    · exact toNat_of_watchActionOf ha
    · refine ih hm k ?_
      simp only [List.length_cons] at hk
      omega
  | case3 bytes _ _ => simp [watchEntriesOf] at h

theorem watchMessage_refusesArguments : RefusesArguments 0x25 watchMessage := by
  intro s p tag body length bad
  obtain ⟨l, rest, rfl⟩ : ∃ l rest, body = l :: rest := by
    rcases body with _ | ⟨l, rest⟩
    · cases length
    · exact ⟨l, rest, rfl⟩
  refine withLane_bad fun lane hl => ?_
  split
  · next es he =>
    obtain ⟨low, high⟩ := toNat_of_laneOf hl
    have actions := action_of_watchEntriesOf he
    have entries : ∀ k, k < rest.length / 8 → (rest[8 * k + 7]?.getD 0).toNat ≤ 3 := by
      simpa [List.getD_eq_getElem?_getD] using actions
    simp [argumentsOk, *] at bad
    obtain ⟨k, hk, beyond⟩ := bad
    exact absurd (entries k hk) (Nat.not_le.mpr beyond)
  · rfl

/-- Bytes that read as kinds' settings are settings. -/
theorem kind_of_mapM {bytes : List Byte} {ks : List KindSetting} (h : bytes.mapM kindSettingOf = some ks) :
    ∀ b ∈ bytes, b.toNat ≤ 3 := by
  induction bytes generalizing ks with
  | nil => exact fun b hb => nomatch hb
  | cons c bytes ih =>
    rw [List.mapM_cons] at h
    obtain ⟨k, hk, h⟩ := Option.bind_eq_some_iff.mp h
    obtain ⟨more, hm, -⟩ := Option.bind_eq_some_iff.mp h
    intro b hb
    rcases List.mem_cons.mp hb with rfl | hb
    · exact toNat_of_kindSettingOf hk
    · exact ih hm b hb

theorem kind_of_kindSettingsOf {bytes : List Byte} {ks : Vector KindSetting 13} (h : kindSettingsOf bytes = some ks) :
    ∀ b ∈ bytes, b.toNat ≤ 3 := by
  unfold kindSettingsOf at h
  split at h
  · cases h
  · next settings hm => exact kind_of_mapM hm

theorem setNoticesMessage_refusesArguments : RefusesArguments 0x06 setNoticesMessage := by
  intro s p tag body length bad
  obtain ⟨q, rest, rfl⟩ := List.exists_cons_of_length_eq_add_one (beq_iff_eq.mp length)
  unfold setNoticesMessage
  dsimp only
  split
  · next port ks hq hk =>
    have := toNat_of_portOf hq
    have kinds := kind_of_kindSettingsOf hk
    have entries : ∀ k : Nat, (rest[k]?.getD 0#8).toNat ≤ 3 := fun k => by
      rcases h : rest[k]? with _ | b
      · simp
      · exact kinds b (List.mem_of_getElem? h)
    simp [argumentsOk, *] at bad
  · rfl

theorem spliceMessage_refusesArguments : RefusesArguments 0x27 spliceMessage := by
  intro s p tag body length bad
  obtain ⟨l, e, t1, t0, rfl⟩ := List.length_eq_four.mp (beq_iff_eq.mp length)
  refine withLane_bad fun lane hl => ?_
  split
  · rfl
  · next on hv =>
    obtain ⟨low, high⟩ := toNat_of_laneOf hl
    have := toNat_of_boolOf hv
    simp [argumentsOk, *] at bad

theorem exitMessage_refusesArguments : RefusesArguments 0x29 exitMessage := by
  intro s p tag body length bad
  obtain ⟨l, form, rfl⟩ := List.length_eq_two.mp (beq_iff_eq.mp length)
  refine withLane_bad fun lane hl => ?_
  obtain ⟨low, high⟩ := toNat_of_laneOf hl
  have none : boolOf form = none := by
    rcases hv : boolOf form with _ | x
    · rfl
    · have := toNat_of_boolOf hv
      simp [argumentsOk, *] at bad
  rw [none]

theorem coverMessage_refusesArguments : RefusesArguments 0x2D coverMessage := by
  intro s p tag body length bad
  obtain ⟨l, v, rfl⟩ := List.length_eq_two.mp (beq_iff_eq.mp length)
  refine withLane_bad fun lane hl => ?_
  split
  · rfl
  · next on hv =>
    obtain ⟨low, high⟩ := toNat_of_laneOf hl
    have := toNat_of_boolOf hv
    simp [argumentsOk, *] at bad

theorem linkMessage_refusesArguments : RefusesArguments 0x2E linkMessage := by
  intro s p tag body length bad
  obtain ⟨f, l, rfl⟩ := List.length_eq_two.mp (beq_iff_eq.mp length)
  refine withLane_bad fun follower hf => withLane_bad fun leader hl => ?_
  obtain ⟨lowF, highF⟩ := toNat_of_laneOf hf
  obtain ⟨lowL, highL⟩ := toNat_of_laneOf hl
  simp [argumentsOk, *] at bad

theorem toNat_of_laneView {l : Lane} {v : Byte} {bytes : List Byte} (h : s.laneView l v = some bytes) : v.toNat ≤ 2 := by
  unfold State.laneView at h
  split_ifs at h with h0 h1 h2
  · simp [h0]
  · simp [h1]
  · simp [h2]

theorem statusMessage_refusesArguments : RefusesArguments 0x30 statusMessage := by
  intro s p tag body length bad
  obtain ⟨l, v, c, rfl⟩ := List.length_eq_three.mp (beq_iff_eq.mp length)
  refine withLane_bad fun lane hl => ?_
  split
  · next bytes clear hv hc =>
    obtain ⟨low, high⟩ := toNat_of_laneOf hl
    have := toNat_of_boolOf hc
    have view := toNat_of_laneView hv
    simp [argumentsOk, *] at bad
  · rfl

end

end Sys2Proof.Machine

namespace Sys2Proof.Machine

section
variable {s t : State} {p : Port} {r : Request}

/-! ### The rows of the opcode table that are requests -/

/-- What the executor looks at for a request: its listed lengths, who may send it, and its message's rule (R170). -/
structure Row where
  lengthOk : Nat → Bool
  permitted : State → Port → List Byte → Bool
  handler : Handler

/-- The row of a code; that of the unknown message for a code that is not listed (10.2). -/
def rowFor (code : Byte) : Row :=
  match code.toNat with
  | 0x01 => ⟨lengthIs 0, eitherPort, identifyMessage⟩
  | 0x02 => ⟨lengthIs 1, clearNeedsController, unitStatusMessage⟩
  | 0x03 => ⟨lengthIs 0, controllerOnly, restartMessage⟩
  | 0x04 => ⟨lengthIs 0, eitherPort, takeControlMessage⟩
  | 0x05 => ⟨lengthIs 1, controllerOnly, setTakeoverMessage⟩
  | 0x06 => ⟨lengthIs 14, namesOwnPort, setNoticesMessage⟩
  | 0x07 => ⟨lengthIs 1, eitherPort, storeStatusMessage⟩
  | 0x08 => ⟨lengthIs 0, controllerOnly, clearCountsMessage⟩
  | 0x09 => ⟨lengthIs 3, controllerOnly, injectMessage⟩
  | 0x0A => ⟨lengthIs 1, controllerOnly, lockMessage⟩
  | 0x0B => ⟨lengthIs 5, controllerOnly, bindInMessage⟩
  | 0x0C => ⟨lengthIs 4, controllerOnly, bindOutMessage⟩
  | 0x0D => ⟨lengthIs 4, controllerOnly, driveMessage⟩
  | 0x0E => ⟨lengthIs 1, eitherPort, panelStatusMessage⟩
  | 0x20 => ⟨lengthIs 8, controllerOnly, configureMessage⟩
  | 0x21 => ⟨lengthIs 1, controllerOnly, laneMessage State.release⟩
  | 0x22 => ⟨lengthIs 7, controllerOnly, timingMessage⟩
  | 0x23 => ⟨lengthIs 11, controllerOnly, governorMessage⟩
  | 0x24 => ⟨routesLength, controllerOnly, routesMessage⟩
  | 0x25 => ⟨watchLength, controllerOnly, watchMessage⟩
  | 0x26 => ⟨lengthIs 7, controllerOnly, fillMessage⟩
  | 0x27 => ⟨lengthIs 4, controllerOnly, spliceMessage⟩
  | 0x28 => ⟨lengthIs 1, controllerOnly, laneMessage fun s l => s.enter l .message⟩
  | 0x29 => ⟨lengthIs 2, controllerOnly, exitMessage⟩
  | 0x2A => ⟨lengthIs 1, controllerOnly, laneMessage State.dump⟩
  | 0x2B => ⟨lengthIs 1, controllerOnly, laneMessage State.setMark⟩
  | 0x2C => ⟨lengthIs 1, controllerOnly, laneMessage State.cutToMark⟩
  | 0x2D => ⟨lengthIs 2, controllerOnly, coverMessage⟩
  | 0x2E => ⟨lengthIs 2, controllerOnly, linkMessage⟩
  | 0x2F => ⟨lengthIs 1, controllerOnly, laneMessage State.unlink⟩
  | 0x30 => ⟨lengthIs 3, clearNeedsController, statusMessage⟩
  | _ => ⟨fun _ => true, eitherPort, unknownHandler⟩

/-- A request's command is an execution of its row. -/
def Runs (r : Request) (i : Instr) (row : Row) : Prop :=
  ∃ isRow : Request → Bool, isRow r = true ∧
    ∀ s, exec i s = .next (s.execute isRow row.lengthOk row.permitted row.handler)

theorem code_of_toNat {n : Nat} (h : r.code.toNat = n) : r.code = BitVec.ofNat 8 n := by
  rw [← h, BitVec.ofNat_toNat, BitVec.setWidth_eq]

theorem runs_of_form {i : Instr} {row : Row} {code other : Byte} {at' : Nat} (hcode : r.code = code)
    (form : r.body[at']? ≠ some other)
    (runs : ∀ s, exec i s = .next (s.execute (hasForm code other at') row.lengthOk row.permitted row.handler)) :
    Runs r i row :=
  ⟨_, hasForm_of_body hcode form, runs⟩

/-- The rows that share their code with another: the requests of each form (log 24). -/
theorem runs_panelLock (code : r.code = 0x0A) : Runs r (rowOf r) (rowFor r.code) := by
  unfold rowOf
  rw [code]
  show Runs r (if r.body[0]? = some 0 then .panelLockOff else .panelLockOn) _
  split
  · next off => exact runs_of_form code (by rw [off]; decide) fun _ => rfl
  · next on => exact runs_of_form code on fun _ => rfl

theorem runs_laneExit (code : r.code = 0x29) : Runs r (rowOf r) (rowFor r.code) := by
  unfold rowOf
  rw [code]
  show Runs r (if r.body[1]? = some 1 then .laneExitNow else .laneExitGentle) _
  split
  · next now => exact runs_of_form code (by rw [now]; decide) fun _ => rfl
  · next gentle => exact runs_of_form code gentle fun _ => rfl

theorem runs_laneCover (code : r.code = 0x2D) : Runs r (rowOf r) (rowFor r.code) := by
  unfold rowOf
  rw [code]
  show Runs r (if r.body[1]? = some 0 then .laneCoverOff else .laneCoverOn) _
  split
  · next off => exact runs_of_form code (by rw [off]; decide) fun _ => rfl
  · next on => exact runs_of_form code on fun _ => rfl

/-- A listed request's command is an execution of its row. -/
theorem runs_rowFor (listed : r.code ∈ requestCodes) : Runs r (rowOf r) (rowFor r.code) := by
  by_cases lock : r.code = 0x0A
  · exact runs_panelLock lock
  by_cases exit : r.code = 0x29
  · exact runs_laneExit exit
  by_cases cover : r.code = 0x2D
  · exact runs_laneCover cover
  refine ⟨hasCode r.code, hasCode_of_code rfl, ?_⟩
  unfold rowOf
  generalize r.code = code at listed lock exit cover ⊢
  simp only [requestCodes, List.mem_cons, List.not_mem_nil, or_false, lock, exit, cover, false_or] at listed
  rcases listed with rfl | rfl | rfl | rfl | rfl | rfl | rfl | rfl | rfl | rfl | rfl | rfl | rfl | rfl | rfl | rfl | rfl |
    rfl | rfl | rfl | rfl | rfl | rfl | rfl | rfl | rfl | rfl | rfl <;> exact fun _ => rfl

theorem toNat_of_unlisted {code : Byte} (unlisted : code ∉ requestCodes) {n : Nat}
    (row : BitVec.ofNat 8 n ∈ requestCodes) : code.toNat ≠ n := by
  rintro rfl
  rw [BitVec.ofNat_toNat, BitVec.setWidth_eq] at row
  exact unlisted row

theorem rowOf_unlisted (unlisted : r.code ∉ requestCodes) : rowOf r = .unknownMessage := by
  unfold rowOf
  split
  case h_32 => rfl
  all_goals next h => exact absurd h (toNat_of_unlisted unlisted (by decide))

theorem rowFor_unlisted {code : Byte} (unlisted : code ∉ requestCodes) :
    rowFor code = ⟨fun _ => true, eitherPort, unknownHandler⟩ := by
  unfold rowFor
  split
  case h_32 => rfl
  all_goals next h => exact absurd h (toNat_of_unlisted unlisted (by decide))

/-- Every request's command is an execution of its row. -/
theorem runs_rowOf (r : Request) : Runs r (rowOf r) (rowFor r.code) := by
  by_cases listed : r.code ∈ requestCodes
  · exact runs_rowFor listed
  · rw [rowOf_unlisted listed, rowFor_unlisted listed]
    exact ⟨fun r => !requestCodes.contains r.code, by simp [listed], fun _ => rfl⟩

/-! ### What the rows say -/

theorem rowFor_lengthOk {code : Byte} (listed : code ∈ requestCodes) (n : Nat) :
    (rowFor code).lengthOk n = listedLength code n := by
  have routes : routesLength n = [2, 7, 12, 17, 22, 27, 32, 37, 42].contains n := by
    rw [Bool.eq_iff_iff]
    simp [routesLength]
    omega
  have watch : watchLength n = [1, 9, 17, 25, 33].contains n := by
    rw [Bool.eq_iff_iff]
    simp [watchLength]
    omega
  by_cases isRoutes : code = 0x24
  · rw [isRoutes]
    exact routes
  by_cases isWatch : code = 0x25
  · rw [isWatch]
    exact watch
  simp only [requestCodes, List.mem_cons, List.not_mem_nil, or_false, isRoutes, isWatch, false_or] at listed
  rcases listed with rfl | rfl | rfl | rfl | rfl | rfl | rfl | rfl | rfl | rfl | rfl | rfl | rfl | rfl | rfl | rfl | rfl |
    rfl | rfl | rfl | rfl | rfl | rfl | rfl | rfl | rfl | rfl | rfl | rfl <;> rfl

/-- Who may send a request: the controller, and the observer what R172 lists. -/
theorem rowFor_permitted (listed : r.code ∈ requestCodes) (s : State) (p : Port) :
    (rowFor r.code).permitted s p r.body = (s.controls p || observerMay p r) := by
  obtain ⟨tag, code, body⟩ := r
  have all : eitherPort s p body = (s.controls p || true) := (Bool.or_true _).symm
  have controller : controllerOnly s p body = (s.controls p || false) := (Bool.or_false _).symm
  by_cases free : code ∈ ([0x01, 0x04, 0x07, 0x0E] : List Byte)
  · simp only [List.mem_cons, List.not_mem_nil, or_false] at free
    rcases free with rfl | rfl | rfl | rfl <;> exact all
  by_cases own : code ∈ ([0x02, 0x06, 0x30] : List Byte)
  · simp only [List.mem_cons, List.not_mem_nil, or_false] at own
    rcases own with rfl | rfl | rfl <;> rfl
  simp only [List.mem_cons, List.not_mem_nil, or_false, not_or] at free own
  simp only [requestCodes, List.mem_cons, List.not_mem_nil, or_false, free, own, false_or] at listed
  rcases listed with rfl | rfl | rfl | rfl | rfl | rfl | rfl | rfl | rfl | rfl | rfl | rfl | rfl | rfl | rfl | rfl | rfl |
    rfl | rfl | rfl | rfl | rfl | rfl | rfl <;> exact controller

/-- A message whose arguments are all listed values refuses none. -/
theorem rowFor_refusesArguments {code : Byte} (listed : code ∈ requestCodes) :
    RefusesArguments code (rowFor code).handler := by
  simp only [requestCodes, List.mem_cons, List.not_mem_nil, or_false] at listed
  rcases listed with rfl | rfl | rfl | rfl | rfl | rfl | rfl | rfl | rfl | rfl | rfl | rfl | rfl | rfl | rfl | rfl | rfl |
    rfl | rfl | rfl | rfl | rfl | rfl | rfl | rfl | rfl | rfl | rfl | rfl | rfl | rfl
  · exact .of_none fun _ _ => rfl
  · exact unitStatusMessage_refusesArguments
  · exact .of_none fun _ _ => rfl
  · exact .of_none fun _ _ => rfl
  · exact setTakeoverMessage_refusesArguments
  · exact setNoticesMessage_refusesArguments
  · exact .of_flag (by simp) storeStatusMessage_bad
  · exact .of_none fun _ _ => rfl
  · exact injectMessage_refusesArguments
  · exact .of_flag (by simp) lockMessage_bad
  · exact bindInMessage_refusesArguments
  · exact fun s p tag body length bad => bindOutMessage_bad (p := p) (r := ⟨tag, 0x0C, body⟩) rfl (beq_iff_eq.mp length) bad
  · exact fun s p tag body length bad => driveMessage_bad (p := p) (r := ⟨tag, 0x0D, body⟩) rfl (beq_iff_eq.mp length) bad
  · exact .of_flag (by simp) panelStatusMessage_bad
  · exact configureMessage_refusesArguments
  · exact laneMessage_refusesArguments (by simp) _
  · exact timingMessage_refusesArguments
  · exact governorMessage_refusesArguments
  · exact routesMessage_refusesArguments
  · exact watchMessage_refusesArguments
  · exact fillMessage_refusesArguments
  · exact spliceMessage_refusesArguments
  · exact laneMessage_refusesArguments (by simp) _
  · exact exitMessage_refusesArguments
  · exact laneMessage_refusesArguments (by simp) _
  · exact laneMessage_refusesArguments (by simp) _
  · exact laneMessage_refusesArguments (by simp) _
  · exact coverMessage_refusesArguments
  · exact linkMessage_refusesArguments
  · exact laneMessage_refusesArguments (by simp) _
  · exact statusMessage_refusesArguments

end

end Sys2Proof.Machine

section
open Sys2Proof Sys2Proof.Machine

/-- Settles O6: the executor's checks, row by row. -/
theorem executorChecksInOrder : Obligations.ExecutorChecksInOrder := by
  intro s p r serves
  obtain ⟨isRow, row, runs⟩ := runs_rowOf r
  refine ⟨unknownMessage_answered serves, fun listed length => ?_, fun listed length observer may => ?_,
    fun listed length may bad => ?_⟩ <;> rw [runs s] <;> refine congrArg Host.Outcome.next ?_
  · exact State.execute_bad_length serves row ((rowFor_lengthOk listed _).trans length)
  · refine State.execute_not_permitted serves row ((rowFor_lengthOk listed _).trans length) ?_
    rw [rowFor_permitted listed, may, State.controls_takeRequest, Bool.or_false]
    simpa [State.controls] using observer
  · refine State.execute_served serves row ((rowFor_lengthOk listed _).trans length) ?_
      (rowFor_refusesArguments listed _ p r.tag r.body length bad)
    rw [rowFor_permitted listed, State.controls_takeRequest, Bool.or_eq_true, State.controls_iff]
    exact may

end

namespace Sys2Proof.Machine

section
variable {s t : State} {p : Port} {r : Request} {l : Lane} {h : Handler}

/-! ### A refusal changes nothing (R170, R180) -/

/-- The results of a request that is done, in full or in part (10.3). -/
def doneResults : List Result := [.ok, .clamped, .partialCut, .markAired]

/-- A request that is answered with another result changes nothing and gets an empty body. -/
def Settled (s : State) (x : State × Answer) : Prop := x.2.result ∉ doneResults → x.1 = s ∧ x.2.body = []

theorem settled_refuse (r : Result) : Settled s (s, .refuse r) := fun _ => ⟨rfl, rfl⟩

theorem settled_of_done {x : State × Answer} (done : x.2.result ∈ doneResults) : Settled s x := fun other => absurd done other

theorem settled_ok (body : List Byte) : Settled s (t, .ok body) := settled_of_done (by simp [doneResults, Answer.ok])

theorem settled_applied (clamped : Bool) (body : List Byte) : Settled s (t, .applied clamped body) :=
  settled_of_done (by cases clamped <;> simp [doneResults, Answer.applied])

theorem settled_withLane {b : Byte} {k : Lane → State × Answer} (h : ∀ l, Settled s (k l)) : Settled s (withLane s b k) := by
  unfold withLane
  split
  · exact settled_refuse _
  · exact h _

theorem settled_onConfigured {k : LaneBody → State × Answer} (h : ∀ b, Settled s (k b)) : Settled s (onConfigured s l k) := by
  unfold onConfigured
  split
  · exact settled_refuse _
  · exact h _

theorem settled_onIndependent {k : LaneBody → State × Answer} (h : ∀ b, Settled s (k b)) : Settled s (onIndependent s l k) := by
  refine settled_onConfigured fun b => ?_
  split
  · exact settled_refuse _
  · exact h b

theorem settled_laneMessage {k : State → Lane → State × Answer} (h : ∀ s l, Settled s (k s l)) (s : State) (p : Port)
    (body : List Byte) : Settled s (laneMessage k s p body) := by
  unfold laneMessage
  split
  · exact settled_withLane (h s)
  · exact settled_refuse _

/-! #### The lane operations -/

theorem settled_configure (s : State) (l : Lane) (fmt : Format) (n : Nat) (force : Bool) :
    Settled s (s.configure l fmt n force) := by
  unfold State.configure
  dsimp only
  split
  · split
    · exact settled_refuse _
    · exact settled_applied _ _
  · split_ifs
    · exact settled_refuse _
    · exact settled_refuse _
    · exact settled_refuse _
    · exact settled_applied _ _

theorem settled_enter (s : State) (l : Lane) (cause : Cause) : Settled s (s.enter l cause) := by
  refine settled_onIndependent fun b => ?_
  split
  · exact settled_refuse _
  · exact settled_refuse _
  · exact settled_ok _
  · dsimp only
    split <;> exact settled_ok _
  · exact settled_ok _

theorem settled_exitGentle (s : State) (l : Lane) (cause : Cause) : Settled s (s.exitGentle l cause) := by
  refine settled_onIndependent fun b => ?_
  dsimp only
  split
  · exact settled_refuse _
  · exact settled_ok _
  all_goals exact settled_ok _

theorem settled_exitNow (s : State) (l : Lane) : Settled s (s.exitNow l) := by
  refine settled_onIndependent fun b => ?_
  split
  · exact settled_refuse _
  · exact settled_ok _

theorem settled_dump (s : State) (l : Lane) : Settled s (s.dump l) := by
  refine settled_onIndependent fun b => ?_
  split
  · exact settled_refuse _
  · refine settled_of_done ?_
    dsimp only
    split <;> simp [doneResults]

theorem settled_cutToMark (s : State) (l : Lane) : Settled s (s.cutToMark l) := by
  refine settled_onIndependent fun b => ?_
  split
  · exact settled_refuse _
  · split
    · exact settled_refuse _
    · refine settled_of_done ?_
      dsimp only
      split <;> simp [doneResults]

theorem settled_linkLanes (s : State) (f l : Lane) : Settled s (s.linkLanes f l) := by
  refine settled_onConfigured fun fb => settled_onConfigured fun lb => ?_
  split
  · exact settled_ok _
  · exact settled_refuse _

theorem settled_unlink (s : State) (l : Lane) : Settled s (s.unlink l) := by
  refine settled_onConfigured fun b => ?_
  split <;> exact settled_ok _

theorem settled_release (s : State) (l : Lane) : Settled s (s.release l) := by
  unfold State.release
  split <;> exact settled_ok _

/-! #### The messages -/

theorem settled_laneMessages (hh : h ∈ laneMessages) (s : State) (p : Port) (body : List Byte) : Settled s (h s p body) := by
  simp only [laneMessages, List.mem_cons, List.not_mem_nil, or_false] at hh
  rcases hh with rfl | rfl | rfl | rfl | rfl | rfl | rfl | rfl | rfl | rfl | rfl | rfl | rfl | rfl | rfl | rfl | rfl
  · unfold configureMessage
    split
    · refine settled_withLane fun l => ?_
      split
      · exact settled_configure _ _ _ _ _
      · exact settled_refuse _
    · exact settled_refuse _
  · exact settled_laneMessage settled_release s p body
  · unfold timingMessage
    split
    · exact settled_withLane fun l => settled_onIndependent fun b => settled_applied _ _
    · exact settled_refuse _
  · unfold governorMessage
    split
    · exact settled_withLane fun l => settled_onConfigured fun b => settled_applied _ _
    · exact settled_refuse _
  · unfold routesMessage
    split
    · refine settled_withLane fun l => ?_
      split
      · refine settled_onConfigured fun b => ?_
        split
        · exact settled_refuse _
        · exact settled_ok _
      · exact settled_refuse _
    · exact settled_refuse _
  · unfold watchMessage
    split
    · refine settled_withLane fun l => ?_
      split
      · refine settled_onConfigured fun b => ?_
        split
        · exact settled_refuse _
        · exact settled_ok _
      · exact settled_refuse _
    · exact settled_refuse _
  · unfold fillMessage
    split
    · refine settled_withLane fun l => ?_
      split
      · exact settled_refuse _
      · exact settled_onConfigured fun b => settled_applied _ _
    · exact settled_refuse _
  · unfold spliceMessage
    split
    · refine settled_withLane fun l => ?_
      split
      · exact settled_refuse _
      · exact settled_onConfigured fun b => settled_ok _
    · exact settled_refuse _
  · exact settled_laneMessage (fun s l => settled_enter s l .message) s p body
  · unfold exitMessage
    split
    · refine settled_withLane fun l => ?_
      split
      · exact settled_refuse _
      · exact settled_exitGentle _ _ _
      · exact settled_exitNow _ _
    · exact settled_refuse _
  · exact settled_laneMessage settled_dump s p body
  · exact settled_laneMessage (fun s l => settled_onIndependent fun b => settled_ok _) s p body
  · exact settled_laneMessage settled_cutToMark s p body
  · unfold coverMessage
    split
    · refine settled_withLane fun l => ?_
      split
      · exact settled_refuse _
      · exact settled_onIndependent fun b => settled_ok _
    · exact settled_refuse _
  · unfold linkMessage
    split
    · exact settled_withLane fun f => settled_withLane fun l => settled_linkLanes _ _ _
    · exact settled_refuse _
  · exact settled_laneMessage settled_unlink s p body
  · unfold statusMessage
    split
    · refine settled_withLane fun l => ?_
      split
      · exact settled_ok _
      · exact settled_refuse _
    · exact settled_refuse _

theorem settled_panelMessages (hh : h ∈ panelMessages) (s : State) (p : Port) (body : List Byte) : Settled s (h s p body) := by
  simp only [panelMessages, List.mem_cons, List.not_mem_nil, or_false] at hh
  rcases hh with rfl | rfl | rfl | rfl
  · unfold lockMessage
    split
    · split
      · exact settled_refuse _
      · exact settled_ok _
    · exact settled_refuse _
  · unfold bindInMessage
    split
    · split
      · exact settled_applied _ _
      · exact settled_refuse _
    · exact settled_refuse _
  · unfold bindOutMessage
    split
    · split
      · split
        · exact settled_refuse _
        · exact settled_ok _
      · exact settled_refuse _
    · exact settled_refuse _
  · unfold driveMessage
    split
    · split
      · exact settled_ok _
      · exact settled_refuse _
    · exact settled_refuse _

theorem settled_unitMessages (hh : h ∈ unitMessages) (s : State) (p : Port) (body : List Byte) : Settled s (h s p body) := by
  simp only [unitMessages, List.mem_cons, List.not_mem_nil, or_false] at hh
  rcases hh with rfl | rfl | rfl | rfl | rfl
  · unfold unitStatusMessage
    split
    · split
      · exact settled_refuse _
      · exact settled_ok _
    · exact settled_refuse _
  · exact settled_ok _
  · unfold takeControlMessage
    split_ifs
    · exact settled_ok _
    · exact settled_refuse _
    · exact settled_ok _
  · unfold setTakeoverMessage
    split
    · split
      · exact settled_refuse _
      · exact settled_ok _
    · exact settled_refuse _
  · unfold setNoticesMessage
    split
    · split
      · exact settled_ok _
      · exact settled_refuse _
    · exact settled_refuse _

theorem settled_messages (hh : h ∈ messages) (s : State) (p : Port) (body : List Byte) : Settled s (h s p body) := by
  simp only [messages, List.mem_append, List.mem_cons, List.not_mem_nil, or_false] at hh
  rcases hh with ((plain | unit) | panel) | lane
  · rcases plain with rfl | rfl | rfl | rfl | rfl | rfl
    · exact settled_refuse _
    · exact settled_ok _
    · unfold storeStatusMessage
      split
      · split_ifs
        · exact settled_ok _
        · exact settled_ok _
        · exact settled_refuse _
      · exact settled_refuse _
    · exact settled_ok _
    · unfold injectMessage
      split
      · split
        · split
          · exact settled_refuse _
          · exact settled_ok _
        · exact settled_refuse _
      · exact settled_refuse _
    · unfold panelStatusMessage
      split
      · split_ifs
        · exact settled_ok _
        · exact settled_ok _
        · exact settled_refuse _
      · exact settled_refuse _
  · exact settled_unitMessages unit s p body
  · exact settled_panelMessages panel s p body
  · exact settled_laneMessages lane s p body

/-! ### One reply for each request -/

theorem rowFor_handler_mem (code : Byte) : (rowFor code).handler ∈ messages := by
  by_cases listed : code ∈ requestCodes
  · simp only [requestCodes, List.mem_cons, List.not_mem_nil, or_false] at listed
    rcases listed with rfl | rfl | rfl | rfl | rfl | rfl | rfl | rfl | rfl | rfl | rfl | rfl | rfl | rfl | rfl | rfl |
      rfl | rfl | rfl | rfl | rfl | rfl | rfl | rfl | rfl | rfl | rfl | rfl | rfl | rfl | rfl <;>
      simp [rowFor, messages, unitMessages, panelMessages, laneMessages]
  · rw [rowFor_unlisted listed]
    simp [messages]

/-- What an execution of a row does with the request it takes: its queue loses it, and one reply joins the reply queue. -/
def Replies (s : State) (p : Port) (r : Request) (t : State) : Prop :=
  ∃ (u : State) (result : Result) (body : List Byte), t = u.reply p r { result := result, body := body } ∧
    (u.link.ports.get p).replies = (s.link.ports.get p).replies ∧
    (u.link.ports.get p).inbound = (s.link.ports.get p).inbound.tail ∧
    (result ∉ doneResults → u = s.takeRequest p ∧ body = [])

theorem replies_of_queued {x : State × Answer} (settled : Settled (s.takeRequest p) x)
    (queues : (x.1.link.ports.get p).queues = ((s.takeRequest p).link.ports.get p).queues) :
    Replies s p r (x.1.reply p r x.2) := by
  have taken : ((s.takeRequest p).link.ports.get p).queues =
      ((s.link.ports.get p).inbound.tail, (s.link.ports.get p).replies) := by cases p <;> rfl
  obtain ⟨inbound, replies⟩ := Prod.mk.injEq _ _ _ _ ▸ queues.trans taken
  exact ⟨x.1, x.2.result, x.2.body, rfl, replies, inbound, settled⟩

theorem execute_replies {isRow : Request → Bool} {lengthOk : Nat → Bool} {permitted : State → Port → List Byte → Bool}
    (serves : Serves s p r) (row : isRow r = true) (hh : h ∈ messages) :
    Replies s p r (s.execute isRow lengthOk permitted h) := by
  have refused (why : Result) : Replies s p r ((s.takeRequest p).reply p r (.refuse why)) :=
    replies_of_queued (x := (s.takeRequest p, .refuse why)) (settled_refuse why) rfl
  cases length : lengthOk r.body.length with
  | false =>
    rw [State.execute_bad_length serves row length]
    exact refused _
  | true =>
    cases may : permitted (s.takeRequest p) p r.body with
    | false =>
      rw [State.execute_not_permitted serves row length may]
      exact refused _
    | true =>
      rw [State.execute_handled serves row length may]
      refine replies_of_queued (settled_messages hh _ _ _) ?_
      exact (queues_keptByPosts fun q => ((s.takeRequest p).link.ports.get q).queues).messages.message hh (fun _ => rfl) p r.body p

/-! ### What the observer's requests leave alone (R172) -/

/-- Everything but the ports and the roles, which the observer's requests leave alone. -/
def KeepsBlocks (s t : State) : Prop :=
  t.lanes = s.lanes ∧ t.store = s.store ∧ t.panel = s.panel ∧ t.tick = s.tick ∧ t.pending = s.pending ∧
    t.link.takeoverAllowed = s.link.takeoverAllowed ∧ t.link.restartPending = s.link.restartPending

theorem keepsBlocks_refl (s : State) : KeepsBlocks s s := ⟨rfl, rfl, rfl, rfl, rfl, rfl, rfl⟩

theorem boolOf_zero : boolOf 0 = some false := rfl

theorem unitStatusMessage_observed (s : State) (p : Port) {body : List Byte} (clear : body.getLast? = some 0) :
    (unitStatusMessage s p body).1 = s := by
  unfold unitStatusMessage
  split
  · next c =>
    obtain rfl : c = 0 := by simpa using clear
    rfl
  · rfl

theorem statusMessage_observed (s : State) (p : Port) {body : List Byte} (clear : body.getLast? = some 0) :
    (statusMessage s p body).1 = s := by
  unfold statusMessage
  split
  · next l v c =>
    obtain rfl : c = 0 := by simpa using clear
    unfold withLane
    split
    · rfl
    · dsimp only
      split
      · next flag =>
        cases boolOf_zero.symm.trans flag
        rfl
      · rfl
  · rfl

theorem setNoticesMessage_keepsBlocks (s : State) (p : Port) (body : List Byte) :
    KeepsBlocks s (setNoticesMessage s p body).1 ∧ (setNoticesMessage s p body).1.link.controller = s.link.controller := by
  unfold setNoticesMessage
  split
  · split
    · exact ⟨⟨rfl, rfl, rfl, rfl, rfl, rfl, rfl⟩, rfl⟩
    · exact ⟨keepsBlocks_refl s, rfl⟩
  · exact ⟨keepsBlocks_refl s, rfl⟩

theorem takeControlMessage_keepsBlocks (s : State) (p : Port) (body : List Byte) :
    KeepsBlocks s (takeControlMessage s p body).1 := by
  unfold takeControlMessage
  split_ifs <;> exact ⟨rfl, rfl, rfl, rfl, rfl, rfl, rfl⟩

/-- What the observer may send changes no block, and only TAKE_CONTROL a role. -/
theorem observer_keepsBlocks (may : r.code ∈ requestCodes → observerMay p r = true) (s : State) :
    KeepsBlocks s ((rowFor r.code).handler s p r.body).1 ∧
      (r.code ≠ 0x04 → ((rowFor r.code).handler s p r.body).1.link.controller = s.link.controller) := by
  obtain ⟨tag, code, body⟩ := r
  have same {t : State} (h : t = s) : KeepsBlocks s t ∧ (code ≠ 0x04 → t.link.controller = s.link.controller) :=
    by rw [h]; exact ⟨keepsBlocks_refl s, fun _ => rfl⟩
  by_cases listed : code ∈ requestCodes
  · replace may := may listed
    by_cases free : code ∈ ([0x01, 0x02, 0x04, 0x06, 0x07, 0x0E, 0x30] : List Byte)
    · simp only [List.mem_cons, List.not_mem_nil, or_false] at free
      rcases free with rfl | rfl | rfl | rfl | rfl | rfl | rfl
      · exact same rfl
      · exact same (unitStatusMessage_observed s p (beq_iff_eq.mp may))
      · exact ⟨takeControlMessage_keepsBlocks s p body, fun other => absurd rfl other⟩
      · obtain ⟨blocks, role⟩ := setNoticesMessage_keepsBlocks s p body
        exact ⟨blocks, fun _ => role⟩
      · exact same (storeStatusMessage_state s p body)
      · exact same (panelStatusMessage_state s p body)
      · exact same (statusMessage_observed s p (beq_iff_eq.mp may))
    · simp only [List.mem_cons, List.not_mem_nil, or_false, not_or] at free
      simp only [requestCodes, List.mem_cons, List.not_mem_nil, or_false, free, false_or] at listed
      refine absurd may ?_
      rcases listed with rfl | rfl | rfl | rfl | rfl | rfl | rfl | rfl | rfl | rfl | rfl | rfl | rfl | rfl | rfl | rfl |
        rfl | rfl | rfl | rfl | rfl | rfl | rfl | rfl <;> exact Bool.false_ne_true
  · dsimp only
    rw [rowFor_unlisted listed]
    exact same rfl

/-- The observer's request keeps the blocks, whether it is refused or handled. -/
theorem observer_execute {isRow : Request → Bool} (serves : Serves s p r) (row : isRow r = true)
    (observer : s.link.controller ≠ p) :
    let t := s.execute isRow (rowFor r.code).lengthOk (rowFor r.code).permitted (rowFor r.code).handler
    KeepsBlocks s t ∧ (r.code ≠ 0x04 → t.link.controller = s.link.controller) := by
  have refused (why : Result) : KeepsBlocks s ((s.takeRequest p).reply p r (.refuse why)) ∧
      (r.code ≠ 0x04 → ((s.takeRequest p).reply p r (.refuse why)).link.controller = s.link.controller) :=
    ⟨⟨rfl, rfl, rfl, rfl, rfl, rfl, rfl⟩, fun _ => rfl⟩
  dsimp only
  cases length : (rowFor r.code).lengthOk r.body.length with
  | false =>
    rw [State.execute_bad_length serves row length]
    exact refused _
  | true =>
    cases may : (rowFor r.code).permitted (s.takeRequest p) p r.body with
    | false =>
      rw [State.execute_not_permitted serves row length may]
      exact refused _
    | true =>
      rw [State.execute_handled serves row length may]
      refine observer_keepsBlocks (fun listed => ?_) (s.takeRequest p)
      rw [rowFor_permitted listed, State.controls_takeRequest, Bool.or_eq_true, State.controls_iff] at may
      exact may.resolve_left observer

end

end Sys2Proof.Machine

section
open Sys2Proof Sys2Proof.Machine

/-- Settles O7: a row's handler touches no queue, and what refuses returns the state it is given. -/
theorem everyRequestGetsOneReply : Obligations.EveryRequestGetsOneReply := by
  intro s p r serves
  obtain ⟨isRow, row, runs⟩ := runs_rowOf r
  obtain ⟨u, result, body, reply, rest⟩ := execute_replies (lengthOk := (rowFor r.code).lengthOk)
    (permitted := (rowFor r.code).permitted) serves row (rowFor_handler_mem r.code)
  exact ⟨u, result, body, by rw [runs, reply], rest⟩

/-- Settles O8: a request is refused, or it is one that the observer may send. -/
theorem observerChangesNoBlock : Obligations.ObserverChangesNoBlock := by
  intro s t p r serves observer run
  obtain ⟨free, -⟩ := (serves_iff s p r).mp serves
  obtain ⟨isRow, row, runs⟩ := runs_rowOf r
  rw [runs s, Host.Outcome.next.injEq] at run
  obtain ⟨⟨lanes, store, panel, tick, pending, takeover, restart⟩, role⟩ := observer_execute serves row observer
  rw [run] at lanes store panel tick pending takeover restart role
  exact ⟨lanes, store, panel, tick, pending, takeover, restart.trans free, role⟩

end

namespace Sys2Proof.Machine

section
variable {s t : State} {p : Port} {r : Request} {l : Lane} {b : LaneBody}

/-! ### A lane message on a known lane (R4, R6) -/

theorem withLane_laneByte (s : State) (l : Lane) (k : Lane → State × Answer) : withLane s (laneByte (some l)) k = k l := by
  simp only [withLane, laneOf_laneByte]

theorem onConfigured_of_some (hb : s.body? l = some b) (k : LaneBody → State × Answer) : onConfigured s l k = k b := by
  simp only [onConfigured, hb]

theorem onConfigured_of_none (off : s.body? l = none) (k : LaneBody → State × Answer) :
    onConfigured s l k = (s, .refuse .notDelaying) := by
  simp only [onConfigured, off]

theorem body_of_leaderOf? (follows : (s.leaderOf? l).isSome = true) : ∃ b, s.body? l = some b ∧ b.link.isSome = true := by
  unfold State.leaderOf? at follows
  rcases hb : s.body? l with _ | b
  · rw [hb] at follows
    cases follows
  · rw [hb, Option.bind_some, Option.isSome_map] at follows
    exact ⟨b, rfl, follows⟩

/-- An operation that an OFF lane refuses NOT_DELAYING and a follower LINKED (R6, steps 2 and 3). -/
def NeedsIndependent (k : State → Lane → State × Answer) : Prop :=
  ∀ s l, (s.body? l = none → k s l = (s, .refuse .notDelaying)) ∧
    ((s.leaderOf? l).isSome = true → k s l = (s, .refuse .linked))

theorem needsIndependent_onIndependent (k : State → Lane → LaneBody → State × Answer) :
    NeedsIndependent fun s l => onIndependent s l (k s l) := by
  refine fun s l => ⟨fun off => onConfigured_of_none off _, fun follows => ?_⟩
  obtain ⟨b, hb, linked⟩ := body_of_leaderOf? follows
  exact (onConfigured_of_some hb _).trans (if_pos linked)

/-- The refusals of such an operation reach the reply of the message that names the lane. -/
def RefusesDependents (code : Byte) : Prop :=
  ∀ (s : State) (p : Port) (l : Lane) (rest : List Byte), listedLength code (rest.length + 1) = true →
    (code = 0x29 ∨ code = 0x2D → ∃ x, rest = [boolByte x]) →
    (s.body? l = none → (rowFor code).handler s p (laneByte (some l) :: rest) = (s, .refuse .notDelaying)) ∧
    ((s.leaderOf? l).isSome = true → (rowFor code).handler s p (laneByte (some l) :: rest) = (s, .refuse .linked))

theorem laneMessage_refusesDependents {code : Byte} {k : State → Lane → State × Answer}
    (handler : (rowFor code).handler = laneMessage k) (one : listedLength code = fun n => n == 1) (needs : NeedsIndependent k) :
    RefusesDependents code := by
  intro s p l rest length _
  obtain rfl : rest = [] := by
    rw [one] at length
    simpa using length
  rw [handler]
  exact ⟨fun off => (withLane_laneByte s l _).trans ((needs s l).1 off),
    fun follows => (withLane_laneByte s l _).trans ((needs s l).2 follows)⟩

theorem timing_refusesDependents : RefusesDependents 0x22 := by
  intro s p l rest length _
  obtain ⟨t1, t0, d1, d0, c1, c0, rfl⟩ : ∃ t1 t0 d1 d0 c1 c0, rest = [t1, t0, d1, d0, c1, c0] := by
    obtain ⟨a, t1, t0, d1, d0, c1, c0, same⟩ := eq_of_length_seven (xs := laneByte (some l) :: rest) (beq_iff_eq.mp length)
    exact ⟨t1, t0, d1, d0, c1, c0, (List.cons.inj same).2⟩
  have needs : NeedsIndependent fun s l => s.setTiming l (nat16 t1 t0) (nat16 d1 d0) (nat16 c1 c0) :=
    needsIndependent_onIndependent _
  exact ⟨fun off => (withLane_laneByte s l _).trans ((needs s l).1 off),
    fun follows => (withLane_laneByte s l _).trans ((needs s l).2 follows)⟩

theorem exit_refusesDependents : RefusesDependents 0x29 := by
  intro s p l rest _ form
  obtain ⟨x, rfl⟩ := form (.inl rfl)
  have gentle : NeedsIndependent fun s l => s.exitGentle l .message := needsIndependent_onIndependent _
  have now : NeedsIndependent State.exitNow := needsIndependent_onIndependent _
  have handled : (rowFor 0x29).handler s p [laneByte (some l), boolByte x] =
      if x then s.exitNow l else s.exitGentle l .message := by
    refine (withLane_laneByte s l _).trans ?_
    rw [boolOf_boolByte]
    cases x <;> rfl
  rw [handled]
  cases x
  · exact gentle s l
  · exact now s l

theorem cover_refusesDependents : RefusesDependents 0x2D := by
  intro s p l rest _ form
  obtain ⟨x, rfl⟩ := form (.inr rfl)
  have handled : (rowFor 0x2D).handler s p [laneByte (some l), boolByte x] = s.requestCover l .control x := by
    refine (withLane_laneByte s l _).trans ?_
    rw [boolOf_boolByte]
  have needs : NeedsIndependent fun s l => s.requestCover l .control x := needsIndependent_onIndependent _
  rw [handled]
  exact needs s l

theorem refusesDependents_of_mem {code : Byte} (row : code ∈ ([0x22, 0x28, 0x29, 0x2A, 0x2B, 0x2C, 0x2D] : List Byte)) :
    RefusesDependents code := by
  simp only [List.mem_cons, List.not_mem_nil, or_false] at row
  rcases row with rfl | rfl | rfl | rfl | rfl | rfl | rfl
  · exact timing_refusesDependents
  · exact laneMessage_refusesDependents rfl rfl (needsIndependent_onIndependent _)
  · exact exit_refusesDependents
  · exact laneMessage_refusesDependents rfl rfl (needsIndependent_onIndependent _)
  · exact laneMessage_refusesDependents rfl rfl (needsIndependent_onIndependent _)
  · exact laneMessage_refusesDependents rfl rfl (needsIndependent_onIndependent _)
  · exact cover_refusesDependents

/-- The controller's request of a listed code and length is answered by its row's handler. -/
theorem exec_rowOf_of_asks {code : Byte} {body answer : List Byte} {effect : State → State} {result : Result}
    (asks : Asks s p r code body) (listed : code ∈ requestCodes) (length : listedLength code body.length = true)
    (handled : (rowFor code).handler (s.takeRequest p) p body = (effect (s.takeRequest p), { result := result, body := answer })) :
    exec (rowOf r) s = .next (served s p r effect result answer) := by
  obtain ⟨serves, controls, rfl, rfl⟩ := asks
  obtain ⟨isRow, row, runs⟩ := runs_rowOf r
  rw [runs s]
  refine congrArg Host.Outcome.next (State.execute_served serves row ((rowFor_lengthOk listed _).trans length) ?_ handled)
  rw [rowFor_permitted listed, State.controls_takeRequest, Bool.or_eq_true, State.controls_iff]
  exact .inl controls

end

end Sys2Proof.Machine

section
open Sys2Proof Sys2Proof.Machine

/-- Settles O39: each of the messages comes to an operation that needs an independent lane. -/
theorem followersAndOffLanesRefuseCommands : Obligations.FollowersAndOffLanesRefuseCommands := by
  intro s p r l x rest row form length asks
  have listed : r.code ∈ requestCodes := (show _ ⊆ requestCodes by decide) row
  obtain ⟨off, follows⟩ := refusesDependents_of_mem row (s.takeRequest p) p l rest length
    fun two => ⟨x, by rw [form, if_pos two]⟩
  exact ⟨fun h => exec_rowOf_of_asks asks listed length (off h), fun h => exec_rowOf_of_asks asks listed length (follows h)⟩

end

namespace Sys2Proof.Machine

section
variable {s t : State} {p : Port} {r : Request} {l : Lane} {b : LaneBody}

/-! ### LANE_TIMING (R18 to R20) -/

theorem dumpSetting_capMs (r : Fin 8) (m ms : Nat) : dumpSetting r m (capMs ms) =
    let frames := if ms = 0 then 0 else min (max (toFrames r (min ms 60000)) 1) m
    ({ ms := min ms 60000, frames := frames }, decide (ms ≠ 0 ∧ frames ≠ toFrames r (min ms 60000))) := by
  unfold dumpSetting capMs
  by_cases zero : ms = 0
  · simp [zero]
  · have : ¬min ms 60000 = 0 := by omega
    simp only [this, zero, if_false, ne_eq, not_false_eq_true, true_and, Prod.mk.injEq]
    simp [bne, beq_eq_decide]

/-- An answer by a condition that may clamp. -/
theorem applied_eq {clamped : Bool} {P : Prop} [Decidable P] (h : clamped = true ↔ P) (body : List Byte) :
    Answer.applied clamped body = { result := if P then .clamped else .ok, body := body } := by
  rw [Answer.applied, if_congr h rfl rfl]

theorem setTiming_of_free (hb : s.body? l = some b) (free : b.link = none) (target dump lead : Nat) :
    let rate := b.fmt.rate
    let cap (ms : Nat) : Nat := min ms 60000
    let targetFrames := min (max (toFrames rate (cap target)) 2) (b.maxH - 2)
    let dumpFrames := if dump = 0 then 0 else min (max (toFrames rate (cap dump)) 1) b.maxH
    let leadFrames := min (toFrames rate (cap lead)) b.maxH
    let timing : Timing :=
      { target := if target = 0 then b.timing.target else some { ms := cap target, frames := targetFrames }
        dump := { ms := cap dump, frames := dumpFrames }
        lead := { ms := cap lead, frames := leadFrames } }
    let clamped := 60000 < target ∨ 60000 < dump ∨ 60000 < lead ∨
      (target ≠ 0 ∧ targetFrames ≠ toFrames rate (cap target)) ∨ (dump ≠ 0 ∧ dumpFrames ≠ toFrames rate (cap dump)) ∨
      leadFrames ≠ toFrames rate (cap lead)
    s.setTiming l target dump lead = (s.setBody l (some { b with timing := timing }),
      { result := if clamped then .clamped else .ok
        body := settingBytes rate timing.targetFrames ++ settingBytes rate dumpFrames ++ settingBytes rate leadFrames }) := by
  unfold State.setTiming
  rw [onIndependent_of_free hb free]
  simp only [dumpSetting_capMs]
  refine Prod.ext rfl ((applied_eq ?_ _).trans rfl)
  simp [targetSetting, leadSetting, capMs, or_assoc]

end

end Sys2Proof.Machine

section
open Sys2Proof Sys2Proof.Machine

/-- Settles O37: each setting is the conversion's, and the reply shows it. -/
theorem timingIsConvertedAndClamped : Obligations.TimingIsConvertedAndClamped := by
  intro s p r l t1 t0 d1 d0 c1 c0 b asks hb free
  obtain ⟨_, _, code, _⟩ := id asks
  exact congrArg Host.Outcome.next (State.execute_asks asks (hasCode_of_code code) rfl
    ((withLane_laneByte _ l _).trans (setTiming_of_free (s := s.takeRequest p) hb free (nat16 t1 t0) (nat16 d1 d0) (nat16 c1 c0))))

end

namespace Sys2Proof.Machine

section
variable {s t : State} {p : Port} {r : Request} {l : Lane} {b : LaneBody}

/-! ### Numbers in bytes (R179) -/

theorem nat16_append (h l : Byte) : (h ++ l : BitVec 16).toNat = nat16 h l := by
  have := l.isLt
  rw [BitVec.toNat_append, nat16, ← Nat.shiftLeft_add_eq_or_of_lt this, Nat.shiftLeft_eq]

theorem type16_eq (h l : Byte) : type16 h l = h ++ l := by
  rw [type16, ← nat16_append, BitVec.ofNat_toNat, BitVec.setWidth_eq]

theorem be16_nat16 (h l : Byte) : be16 (nat16 h l) = [h, l] := by
  have hh := h.isLt
  have hl := l.isLt
  have high : (h.toNat * 256 + l.toNat) / 256 = h.toNat := by omega
  have low : BitVec.ofNat 8 (h.toNat * 256 + l.toNat) = l := BitVec.eq_of_toNat_eq (by rw [BitVec.toNat_ofNat]; omega)
  rw [be16, nat16, high, low, BitVec.ofNat_toNat, BitVec.setWidth_eq]

theorem be16_append (h l : Byte) : be16 (h ++ l : BitVec 16).toNat = [h, l] := by rw [nat16_append, be16_nat16]

/-- Two bytes of a packet type read as that type. -/
theorem type16_bytes (ty : PacketType) : type16 (BitVec.ofNat 8 (ty.toNat / 256)) (BitVec.ofNat 8 ty.toNat) = ty := by
  have := ty.isLt
  refine BitVec.eq_of_toNat_eq ?_
  simp only [type16, nat16, BitVec.toNat_ofNat]
  omega

/-! ### LANE_GOVERNOR, LANE_COVER_FILL, LANE_SPLICE -/

theorem GovSettings.bytes_append (g : GovSettings) {m1 m0 : Byte} (mask : g.mask = m1 ++ m0) :
    g.bytes = be24 g.threshold ++ [m1, m0, BitVec.ofNat 8 g.q, BitVec.ofNat 8 g.s] ++ be16 g.f ++ [BitVec.ofNat 8 g.e] := by
  rw [GovSettings.bytes, mask, be16_append]
  simp

theorem GovSettings.clamp_eq_iff (g : GovSettings) : g.clamp = g ↔
    g.clamp.threshold = g.threshold ∧ g.clamp.q = g.q ∧ g.clamp.s = g.s ∧ g.clamp.f = g.f ∧ g.clamp.e = g.e := by
  obtain ⟨threshold, mask, q, sp, f, e⟩ := g
  simp [GovSettings.clamp]

@[simp] theorem fillKindOf_fillKindByte (k : FillKind) : fillKindOf (fillKindByte k) = some k := by cases k <;> decide

/-! ### LANE_ROUTES and LANE_WATCH -/

/-- The number of a packet class (R183). -/
def packetClassByte : PacketClass → Byte
  | .live => 0
  | .delay => 1
  | .carry => 2
  | .drop => 3

/-- The number of a watch action (R183). -/
def watchActionByte : WatchAction → Byte
  | .mark => 0
  | .coverOn => 1
  | .coverOff => 2
  | .notify => 3

theorem packetClassOf_packetClassByte (c : PacketClass) : packetClassOf (packetClassByte c) = some c := by
  cases c <;> decide

theorem watchActionOf_watchActionByte (a : WatchAction) : watchActionOf (watchActionByte a) = some a := by
  cases a <;> decide

theorem routeBytes_eq (e : RouteEntry) : routeBytes e =
    [BitVec.ofNat 8 (e.low.toNat / 256), BitVec.ofNat 8 e.low.toNat, BitVec.ofNat 8 (e.high.toNat / 256),
      BitVec.ofNat 8 e.high.toNat, packetClassByte e.cls] := by
  obtain ⟨low, high, cls⟩ := e
  cases cls <;> rfl

/-- The bytes of routes read as those routes (R183). -/
theorem routeEntriesOf_bytes (es : List RouteEntry) : routeEntriesOf (es.flatMap routeBytes) = some es := by
  induction es with
  | nil => rfl
  | cons e es ih =>
    rw [List.flatMap_cons, routeBytes_eq]
    simp only [List.cons_append, List.nil_append, routeEntriesOf, packetClassOf_packetClassByte, ih, type16_bytes,
      Option.bind_eq_bind, Option.bind_some, Option.pure_def]

/-- Up to four match bytes, filled up to four with 0, and the bytes among them. -/
theorem take_padded {m : List Byte} (short : m.length ≤ 4) : ∃ m0 m1 m2 m3,
    m ++ List.replicate (4 - m.length) 0 = [m0, m1, m2, m3] ∧ [m0, m1, m2, m3].take m.length = m := by
  have length : (m ++ List.replicate (4 - m.length) 0).length = 4 := by
    rw [List.length_append, List.length_replicate]
    omega
  obtain ⟨m0, m1, m2, m3, padded⟩ := List.length_eq_four.mp length
  exact ⟨m0, m1, m2, m3, padded, by rw [← padded, List.take_left]⟩

/-- The bytes of watch entries read as those entries, their match lengths beside them (R183). -/
theorem watchEntriesOf_bytes {es : List WatchEntry} (short : ∀ e ∈ es, e.bytes.length ≤ 4) :
    watchEntriesOf (es.flatMap watchBytes) = some (es.map fun e => (e.bytes.length, e)) := by
  induction es with
  | nil => rfl
  | cons e es ih =>
    obtain ⟨m0, m1, m2, m3, padded, taken⟩ := take_padded (short e List.mem_cons_self)
    have bytes : watchBytes e = [BitVec.ofNat 8 (e.type.toNat / 256), BitVec.ofNat 8 e.type.toNat,
        BitVec.ofNat 8 e.bytes.length, m0, m1, m2, m3, watchActionByte e.action] := by
      rw [watchBytes, padded]
      cases e.action <;> rfl
    have len : (BitVec.ofNat 8 e.bytes.length).toNat = e.bytes.length := by
      have := short e List.mem_cons_self
      rw [BitVec.toNat_ofNat]
      omega
    rw [List.flatMap_cons, bytes, List.map_cons]
    simp only [List.cons_append, List.nil_append, watchEntriesOf, watchActionOf_watchActionByte,
      ih fun x hx => short x (List.mem_cons_of_mem _ hx), type16_bytes, len, taken, Option.bind_eq_bind, Option.bind_some,
      Option.pure_def]

/-- A match length sent is that of an entry read (R59). -/
theorem matchLength_of_watchEntriesOf {bytes : List Byte} {es : List (Nat × WatchEntry)} (h : watchEntriesOf bytes = some es) :
    ∀ k, k < bytes.length / 8 → ∃ e ∈ es, e.1 = (bytes.getD (8 * k + 2) 0).toNat := by
  induction bytes using watchEntriesOf.induct generalizing es with
  | case1 => simp
  | case2 th tl n m0 m1 m2 m3 a rest ih =>
    rw [watchEntriesOf] at h
    obtain ⟨action, -, h⟩ := Option.bind_eq_some_iff.mp h
    obtain ⟨more, hm, h⟩ := Option.bind_eq_some_iff.mp h
    cases h
    rintro (_ | k) hk
    · exact ⟨_, List.mem_cons_self, rfl⟩
    · obtain ⟨e, he, same⟩ := ih hm k (by simp only [List.length_cons] at hk; omega)
      exact ⟨e, List.mem_cons_of_mem _ he, same⟩
  | case3 bytes _ _ => simp [watchEntriesOf] at h

theorem nat24_eq (h m l : Byte) : nat24 h m l = h.toNat * 65536 + m.toNat * 256 + l.toNat := by
  rw [nat24, nat16, Nat.add_assoc]

/-- The settings that a LANE_GOVERNOR asks for (R183). -/
def askedGovernor (t2 t1 t0 m1 m0 q sp f1 f0 e : Byte) : GovSettings :=
  { threshold := t2.toNat * 65536 + t1.toNat * 256 + t0.toNat
    mask := m1 ++ m0
    q := q.toNat
    s := sp.toNat
    f := f1.toNat * 256 + f0.toNat
    e := e.toNat }

theorem governorMessage_apply (s : State) (p : Port) (l : Lane) (t2 t1 t0 m1 m0 q sp f1 f0 e : Byte) :
    governorMessage s p [laneByte (some l), t2, t1, t0, m1, m0, q, sp, f1, f0, e] =
      s.setGovernor l (askedGovernor t2 t1 t0 m1 m0 q sp f1 f0 e) := by
  simp only [governorMessage, withLane_laneByte, nat24_eq, type16_eq]
  rfl

theorem fillMessage_apply (s : State) (p : Port) (l : Lane) (kind : FillKind) (a2 a1 a0 m1 m0 : Byte) :
    fillMessage s p [laneByte (some l), fillKindByte kind, a2, a1, a0, m1, m0] =
      s.setFill l kind (a2.toNat * 65536 + a1.toNat * 256 + a0.toNat) (m1 ++ m0) := by
  simp only [fillMessage, withLane_laneByte, fillKindOf_fillKindByte, nat24_eq, type16_eq]

theorem spliceMessage_apply (hb : s.body? l = some b) (p : Port) (on : Bool) (t1 t0 : Byte) :
    spliceMessage s p [laneByte (some l), boolByte on, t1, t0] =
      (s.setBody l (some { b with splice := { enabled := on, type := t1 ++ t0 } }), .ok [boolByte on, t1, t0]) := by
  simp only [spliceMessage, withLane_laneByte, boolOf_boolByte, State.setSplice, onConfigured_of_some hb, type16_eq,
    Splice.bytes, be16_append]

theorem setGovernor_of_some (hb : s.body? l = some b) (g : GovSettings) : s.setGovernor l g =
    (s.setBody l (some { b with govSet := g.clamp }),
      { result := if g.clamp.threshold = g.threshold ∧ g.clamp.q = g.q ∧ g.clamp.s = g.s ∧ g.clamp.f = g.f ∧ g.clamp.e = g.e
          then .ok else .clamped
        body := g.clamp.bytes }) := by
  unfold State.setGovernor
  rw [onConfigured_of_some hb]
  refine Prod.ext rfl ((applied_eq (P := ¬g.clamp = g) (by simp) _).trans ?_)
  rw [ite_not, if_congr (GovSettings.clamp_eq_iff g) rfl rfl]

theorem setFill_of_some (hb : s.body? l = some b) (kind : FillKind) (asked : Nat) (mask : BitVec 16) :
    s.setFill l kind asked mask =
      (s.setBody l (some { b with play := { b.play with fill :=
          { kind := kind, amplitude := min asked 8388607, mask := mask } } }),
        { result := if asked ≤ 8388607 then .ok else .clamped
          body := fillKindByte kind :: be24 (min asked 8388607) ++ be16 mask.toNat }) := by
  unfold State.setFill
  rw [onConfigured_of_some hb]
  refine Prod.ext rfl ((applied_eq (P := ¬asked ≤ 8388607) (by simp) _).trans ?_)
  rw [ite_not]
  rfl

theorem setRoutes_of_some (hb : s.body? l = some b) (dflt : PacketClass) (es : List RouteEntry) :
    s.setRoutes l dflt es = if ∃ e ∈ es, e.high.toNat < e.low.toNat then (s, .refuse .badArgument)
      else (s.setBody l (some { b with intake := { b.intake with routes := es, defaultClass := dflt } }), .ok []) := by
  unfold State.setRoutes
  rw [onConfigured_of_some hb]
  exact if_congr (by simp) rfl rfl

theorem setWatch_of_some (hb : s.body? l = some b) (es : List (Nat × WatchEntry)) :
    s.setWatch l es = if ∃ e ∈ es, 4 < e.1 then (s, .refuse .badArgument)
      else (s.setBody l (some { b with intake := { b.intake with watch := es.map (·.2) } }), .ok []) := by
  unfold State.setWatch
  rw [onConfigured_of_some hb]
  exact if_congr (by simp) rfl rfl

theorem routesMessage_apply (s : State) (p : Port) (l : Lane) (dflt : PacketClass) (es : List RouteEntry) :
    routesMessage s p (laneByte (some l) :: (routeBytes { low := 0, high := 0, cls := dflt }).drop 4 ++ es.flatMap routeBytes) =
      s.setRoutes l dflt es := by
  rw [routeBytes_eq]
  simp only [List.drop_succ_cons, List.drop_zero, List.cons_append, List.nil_append, routesMessage, withLane_laneByte,
    packetClassOf_packetClassByte, routeEntriesOf_bytes]

theorem watchMessage_apply (s : State) (p : Port) (l : Lane) {es : List WatchEntry} (short : ∀ e ∈ es, e.bytes.length ≤ 4) :
    watchMessage s p (laneByte (some l) :: es.flatMap watchBytes) = s.setWatch l (es.map fun e => (e.bytes.length, e)) := by
  simp only [watchMessage, withLane_laneByte, watchEntriesOf_bytes short]

/-- A match length above 4 is refused, whether or not the entries read (R59). -/
theorem watchMessage_long (hb : s.body? l = some b) (p : Port) {w : List Byte}
    (long : ∃ k, k < w.length / 8 ∧ 4 < (w.getD (8 * k + 2) 0).toNat) :
    watchMessage s p (laneByte (some l) :: w) = (s, .refuse .badArgument) := by
  simp only [watchMessage, withLane_laneByte]
  split
  · next es read =>
    obtain ⟨k, hk, beyond⟩ := long
    obtain ⟨e, he, same⟩ := matchLength_of_watchEntriesOf read k hk
    rw [setWatch_of_some hb, if_pos ⟨e, he, same ▸ beyond⟩]
  · rfl

theorem routeBytes_length (es : List RouteEntry) : (es.flatMap routeBytes).length = 5 * es.length := by
  induction es with
  | nil => rfl
  | cons e es ih =>
    rw [List.flatMap_cons, List.length_append, ih, routeBytes_eq]
    simp only [List.length_cons, List.length_nil]
    omega

theorem watchBytes_length {es : List WatchEntry} (short : ∀ e ∈ es, e.bytes.length ≤ 4) :
    (es.flatMap watchBytes).length = 8 * es.length := by
  induction es with
  | nil => rfl
  | cons e es ih =>
    have := short e List.mem_cons_self
    have one : (watchBytes e).length = 8 := by
      simp [watchBytes, be16]
      omega
    rw [List.flatMap_cons, List.length_append, ih fun x hx => short x (List.mem_cons_of_mem _ hx), one, List.length_cons]
    omega

end

end Sys2Proof.Machine

section
open Sys2Proof Sys2Proof.Machine

/-- Settles O38, message by message. -/
theorem settingMessagesReplaceTheirSettings : Obligations.SettingMessagesReplaceTheirSettings := by
  refine ⟨fun s p r l b hb => ⟨fun t2 t1 t0 m1 m0 q sp f1 f0 e asks => ?_, fun kind a2 a1 a0 m1 m0 asks => ?_,
    fun on t1 t0 asks => ?_⟩, fun s p r l b hb => ⟨fun dflt es few asks => ?_, fun w asks length _ long => ?_,
    fun es few short asks => ?_⟩⟩
  · obtain ⟨_, _, code, _⟩ := id asks
    have handled := (governorMessage_apply (s.takeRequest p) p l t2 t1 t0 m1 m0 q sp f1 f0 e).trans
      (setGovernor_of_some (s := s.takeRequest p) hb _)
    rw [GovSettings.bytes_append (m1 := m1) (m0 := m0) _ rfl] at handled
    exact congrArg Host.Outcome.next (State.execute_asks asks (hasCode_of_code code) rfl handled)
  · obtain ⟨_, _, code, _⟩ := id asks
    have handled := (fillMessage_apply (s.takeRequest p) p l kind a2 a1 a0 m1 m0).trans
      (setFill_of_some (s := s.takeRequest p) hb _ _ _)
    rw [be16_append] at handled
    exact congrArg Host.Outcome.next (State.execute_asks asks (hasCode_of_code code) rfl handled)
  · obtain ⟨_, _, code, _⟩ := id asks
    exact congrArg Host.Outcome.next (State.execute_asks asks (hasCode_of_code code) rfl
      (spliceMessage_apply (s := s.takeRequest p) hb p on t1 t0))
  · obtain ⟨_, _, code, _⟩ := id asks
    have handled := (routesMessage_apply (s.takeRequest p) p l dflt es).trans (setRoutes_of_some (s := s.takeRequest p) hb dflt es)
    have length : routesLength (laneByte (some l) ::
        (routeBytes { low := 0, high := 0, cls := dflt }).drop 4 ++ es.flatMap routeBytes).length = true := by
      have bytes : (laneByte (some l) :: (routeBytes { low := 0, high := 0, cls := dflt }).drop 4 ++
          es.flatMap routeBytes).length = 5 * es.length + 2 := by
        rw [List.length_append, routeBytes_length, Nat.add_comm]
        rfl
      rw [bytes]
      simp [routesLength]
      omega
    split
    · next inverted =>
      rw [if_pos inverted] at handled
      exact congrArg Host.Outcome.next (State.execute_asks asks (hasCode_of_code code) length handled)
    · next ordered =>
      rw [if_neg ordered] at handled
      exact congrArg Host.Outcome.next (State.execute_asks asks (hasCode_of_code code) length handled)
  · obtain ⟨_, _, code, _⟩ := id asks
    exact congrArg Host.Outcome.next (State.execute_asks asks (hasCode_of_code code)
      ((rowFor_lengthOk (code := 0x25) (by decide) _).trans length) (watchMessage_long (s := s.takeRequest p) hb p long))
  · obtain ⟨_, _, code, _⟩ := id asks
    have length : watchLength (laneByte (some l) :: es.flatMap watchBytes).length = true := by
      rw [List.length_cons, watchBytes_length short]
      simp [watchLength]
      omega
    refine congrArg Host.Outcome.next (State.execute_asks asks (hasCode_of_code code) length
      ((watchMessage_apply _ p l short).trans ((setWatch_of_some (s := s.takeRequest p) hb _).trans ((if_neg ?_).trans ?_))))
    · rintro ⟨x, hx, long⟩
      obtain ⟨e, he, rfl⟩ := List.mem_map.mp hx
      exact absurd (short e he) (Nat.not_le.mpr long)
    · rw [List.map_map, show ((fun e : Nat × WatchEntry => e.2) ∘ fun e => (e.bytes.length, e)) = id from rfl, List.map_id]
      rfl

end

namespace Sys2Proof.Machine

section
variable {s t : State} {p : Port} {r : Request} {l f : Lane} {b : LaneBody}

/-! ### LANE_CONFIGURE (R1 to R8) -/

@[simp] theorem classOf_classByte (c : VideoClass) : classOf (classByte c) = some c := by cases c <;> decide

@[simp] theorem channelsOf_toNat (c : ChannelCount) : channelsOf (BitVec.ofNat 8 c.toNat) = some c := by cases c <;> decide

theorem configureMessage_apply (s : State) (p : Port) (l : Lane) (rate : Fin 8) (c : VideoClass) (ch : ChannelCount)
    (b2 b1 b0 : Byte) (force : Bool) :
    configureMessage s p [laneByte (some l), BitVec.ofNat 8 rate.val, classByte c, BitVec.ofNat 8 ch.toNat, b2, b1, b0,
      boolByte force] =
    s.configure l { rate := rate, vclass := c, channels := ch } (b2.toNat * 65536 + b1.toNat * 256 + b0.toNat) force := by
  simp only [configureMessage, withLane_laneByte, rateOf_ofNat, classOf_classByte, channelsOf_toNat, boolOf_boolByte, nat24_eq]

theorem Store.reservedElsewhere_eq (st : Store) (l : Lane) :
    st.reservedElsewhere l = ((allLanes.filter (· != l)).map st.budget.get).sum := by
  rw [Store.reservedElsewhere, List.sum_eq_foldl]

/-- The budget asked for is raised to 6 pages per frame (R3). -/
def raisedBudget (fmt : Format) (asked : Nat) : Nat := max asked (6 * pagesPerFrame fmt.vclass)

theorem raised_iff (fmt : Format) (asked : Nat) :
    (raisedBudget fmt asked != asked) = true ↔ asked < 6 * pagesPerFrame fmt.vclass := by
  unfold raisedBudget
  simp

theorem lacks_iff (s : State) (l : Lane) (fmt : Format) (asked : Nat) :
    (!decide (raisedBudget fmt asked + s.store.reservedElsewhere l ≤ Config.poolPages)) = true ↔
      65536 < raisedBudget fmt asked + s.store.reservedElsewhere l := by
  rw [Bool.not_eq_true', decide_eq_false_iff_not, Nat.not_le]
  rfl

/-- A lane configured from OFF: its slot, its budget, and the notice (R1 to R5). -/
def State.started (s : State) (l : Lane) (fmt : Format) (budget : Nat) : State :=
  let slot : LaneSlot := { counters := .zero, body := some (.fresh fmt (maxRecords budget fmt.vclass)) }
  (({ s with lanes := s.lanes.set l slot } : State).setBudget l budget).post (some l) (.laneState (some .pass) .message)

theorem State.configure_of_none (off : s.body? l = none) (fmt : Format) (asked : Nat) (force : Bool) :
    s.configure l fmt asked force =
      let budget := raisedBudget fmt asked
      if 65536 < budget + s.store.reservedElsewhere l then (s, .refuse .noPages)
      else (s.started l fmt budget, { result := if asked < 6 * pagesPerFrame fmt.vclass then .clamped else .ok
                                      body := be24 budget ++ be16 (maxRecords budget fmt.vclass) }) := by
  unfold State.configure
  rw [off]
  exact if_congr (lacks_iff s l fmt asked) rfl (Prod.ext rfl (applied_eq (raised_iff fmt asked) _))

/-- A reconfigure, by the checks of R6 and R8. -/
theorem State.configure_of_some (hb : s.body? l = some b) (fmt : Format) (asked : Nat) (force : Bool) :
    s.configure l fmt asked force =
      let budget := raisedBudget fmt asked
      let m := maxRecords budget fmt.vclass
      if s.isLinked l = true then (s, .refuse .linked)
      else if b.mode ≠ .pass ∧ force = false then (s, .refuse .laneActive)
      else if 65536 < budget + s.store.reservedElsewhere l then (s, .refuse .noPages)
      else ((((s.setBody l (some (b.reconfigured fmt m))).freePages l b.pages).setBudget l budget).post (some l)
          (.laneState (some .pass) .restarted),
        { result := if asked < 6 * pagesPerFrame fmt.vclass ∨ (b.timing.recompute fmt.rate m).2 = true then .clamped else .ok
          body := be24 budget ++ be16 m }) := by
  have delaying : (b.mode.delaying && !force) = true ↔ b.mode ≠ .pass ∧ force = false := by
    rw [Mode.delaying_eq]
    simp
  have clamped (x : Bool) : (raisedBudget fmt asked != asked || x) = true ↔
      asked < 6 * pagesPerFrame fmt.vclass ∨ x = true := by
    rw [Bool.or_eq_true, raised_iff]
  unfold State.configure
  rw [hb]
  refine if_congr Iff.rfl rfl (if_congr delaying rfl (if_congr (lacks_iff s l fmt asked) rfl (Prod.ext rfl (applied_eq (clamped _) _))))

theorem exec_configure {rate : Fin 8} {c : VideoClass} {ch : ChannelCount} {b2 b1 b0 : Byte} {force : Bool}
    {effect : State → State} {result : Result} {answer : List Byte}
    (asks : Asks s p r 0x20 [laneByte (some l), BitVec.ofNat 8 rate.val, classByte c, BitVec.ofNat 8 ch.toNat, b2, b1, b0,
      boolByte force])
    (handled : (s.takeRequest p).configure l { rate := rate, vclass := c, channels := ch }
      (b2.toNat * 65536 + b1.toNat * 256 + b0.toNat) force =
        (effect (s.takeRequest p), { result := result, body := answer })) :
    exec .laneConfigure s = .next (served s p r effect result answer) := by
  obtain ⟨_, _, code, _⟩ := id asks
  exact congrArg Host.Outcome.next (State.execute_asks asks (hasCode_of_code code) rfl
    ((configureMessage_apply _ p l rate c ch b2 b1 b0 force).trans handled))

/-- The timing settings recomputed, each by its conversion (R22). -/
theorem Timing.recompute_eq (x : Timing) (rate : Fin 8) (m : Nat) :
    let target (t : Setting) : Setting := { t with frames := min (max (toFrames rate t.ms) 2) (m - 2) }
    let dump := if x.dump.ms = 0 then 0 else min (max (toFrames rate x.dump.ms) 1) m
    let lead := min (toFrames rate x.lead.ms) m
    (x.recompute rate m).1 =
      { target := x.target.map target, dump := { ms := x.dump.ms, frames := dump }, lead := { ms := x.lead.ms, frames := lead } } ∧
    ((x.recompute rate m).2 = true ↔ (x.target.any fun t => (target t).frames != toFrames rate t.ms) = true ∨
      (x.dump.ms ≠ 0 ∧ dump ≠ toFrames rate x.dump.ms) ∨ lead ≠ toFrames rate x.lead.ms) := by
  obtain ⟨target, ⟨dump, df⟩, lead⟩ := x
  refine ⟨?_, ?_⟩
  · by_cases zero : dump = 0 <;> cases target <;> simp [Timing.recompute, targetSetting, dumpSetting, leadSetting, zero]
  · by_cases zero : dump = 0 <;> cases target <;>
      simp [Timing.recompute, targetSetting, dumpSetting, leadSetting, zero, or_assoc]

theorem State.isLinked_iff (hb : s.body? l = some b) : s.isLinked l = true ↔ b.link ≠ none ∨ s.followersOf l ≠ [] := by
  simp [State.isLinked, State.leaderOf?, hb, Option.isSome_iff_ne_none]

end

end Sys2Proof.Machine

section
open Sys2Proof Sys2Proof.Machine

/-- Settles O33: the budget raised, and the fresh lane where the pool has room for it. -/
theorem configureFromOffStartsTheLane : Obligations.ConfigureFromOffStartsTheLane := by
  intro s p r l rate c ch b2 b1 b0 force asks off asked ppf budget m elsewhere body
  have handled := State.configure_of_none (s := s.takeRequest p) off { rate := rate, vclass := c, channels := ch } asked force
  rw [Store.reservedElsewhere_eq] at handled
  split
  · next room => exact exec_configure asks (handled.trans (if_neg (Nat.not_lt.mpr room)))
  · next lack => exact exec_configure asks (handled.trans (if_pos (Nat.not_le.mp lack)))

/-- Settles O34: the checks in order, and the lane flushed with its timing recomputed. -/
theorem reconfigureFlushesTheLane : Obligations.ReconfigureFlushesTheLane := by
  intro s p r l rate c ch b2 b1 b0 force b asks hb asked ppf budget m elsewhere target dump lead clamped pages fresh
  have handled := State.configure_of_some (s := s.takeRequest p) hb { rate := rate, vclass := c, channels := ch } asked force
  obtain ⟨timing, adjusted⟩ := b.timing.recompute_eq rate m
  have linked : (s.takeRequest p).isLinked l = true ↔ b.link ≠ none ∨ s.followersOf l ≠ [] := State.isLinked_iff hb
  have flushed : b.reconfigured { rate := rate, vclass := c, channels := ch } m = fresh := by
    rw [LaneBody.reconfigured, timing]
    rfl
  rw [Store.reservedElsewhere_eq] at handled
  split
  · next isLinked => exact exec_configure asks (handled.trans (if_pos (linked.mpr isLinked)))
  next alone =>
  replace handled := handled.trans (if_neg (linked.not.mpr alone))
  split
  · next active => exact exec_configure asks (handled.trans (if_pos active))
  next idle =>
  replace handled := handled.trans (if_neg idle)
  split
  · next lack => exact exec_configure asks (handled.trans (if_pos lack))
  · next room =>
    refine exec_configure asks (handled.trans ((if_neg room).trans (Prod.ext ?_ ?_)))
    · show (((State.setBody _ l (some (b.reconfigured _ m))).freePages l b.pages).setBudget l budget).post _ _ = _
      rw [flushed]
      rfl
    · show Answer.mk (if asked < 6 * ppf ∨ (b.timing.recompute rate m).2 = true then .clamped else .ok) _ = _
      rw [if_congr (or_congr Iff.rfl adjusted) rfl rfl]
      rfl

end

namespace Sys2Proof.Machine

section
variable {s t : State} {p : Port} {r : Request} {l f : Lane} {b c : LaneBody}

/-! ### Messages whose body is a lane, or a lane and a form -/

theorem laneMessage_apply (k : State → Lane → State × Answer) (s : State) (p : Port) (l : Lane) :
    laneMessage k s p [laneByte (some l)] = k s l := withLane_laneByte s l (k s)

/-! ### LANE_LINK and LANE_UNLINK (R23, R24, R26, R147) -/

/-- A lane as it becomes another's follower (R23, R147). -/
def LaneBody.joined (fb lb : LaneBody) (l : Lane) : LaneBody :=
  { fb with
    link := some { leader := l, off := lb.intake.nextSeq - fb.intake.nextSeq, pending := 0, leaderMoved := false }
    intake := { fb.intake with discardThrough := none } }

theorem linkMessage_apply (s : State) (p : Port) (f l : Lane) :
    linkMessage s p [laneByte (some f), laneByte (some l)] = s.linkLanes f l :=
  (withLane_laneByte s f _).trans (withLane_laneByte s l _)

theorem linkLanes_of_none (off : s.body? f = none ∨ s.body? l = none) : s.linkLanes f l = (s, .refuse .notDelaying) := by
  rcases hf : s.body? f with _ | fb
  · exact onConfigured_of_none hf _
  · exact (onConfigured_of_some hf _).trans (onConfigured_of_none (off.resolve_left (by rw [hf]; simp)) _)

theorem linkLanes_of_some {fb lb : LaneBody} (hf : s.body? f = some fb) (hl : s.body? l = some lb) : s.linkLanes f l =
    if f ≠ l ∧ fb.mode = .pass ∧ lb.mode = .pass ∧ fb.fmt.rate = lb.fmt.rate ∧ lb.link = none ∧ fb.link = none ∧
        s.followersOf f = [] then
      (s.setBody f (some (if lb.dl.sources = .empty then fb.joined lb l else (fb.joined lb l).cover .leader)),
        .ok (be32 (lb.intake.nextSeq - fb.intake.nextSeq).toNat))
    else (s, .refuse .linkRefused) := by
  unfold State.linkLanes
  rw [onConfigured_of_some hf, onConfigured_of_some hl]
  refine if_congr Iff.rfl (Prod.ext ?_ rfl) rfl
  dsimp only
  rw [if_congr (CoverSet.isEmpty_iff lb.dl.sources) rfl rfl]
  rfl

theorem unlink_of_some (hb : s.body? l = some b) : s.unlink l =
    if b.link = none then (s, .ok [])
    else ((s.setBody l (some (independent b))).postAll (unlinkedPosts l b), .ok []) := by
  unfold State.unlink
  rw [onConfigured_of_some hb, State.makeIndependent_of_some hb]
  cases b.link <;> rfl

/-! ### LANE_RELEASE (R14) -/

theorem State.bodiesFrom_makeIndependent (s : State) (f : Lane) : (s.makeIndependent f).BodiesFrom s := by
  rcases hf : s.body? f with _ | b
  · rw [State.makeIndependent_of_none hf]
    exact s.bodiesFrom_refl
  · rw [State.makeIndependent_of_some hf]
    exact (foldl_invariant _ (fun u : State => u.BodiesFrom (s.setBody f (some (independent b))))
      (fun u x hu => (State.bodiesFrom_post u x.1 x.2).trans hu) (unlinkedPosts f b) _ (State.bodiesFrom_refl _)).trans
      (State.bodiesFrom_setBody s f _)

theorem State.makeIndependents_link (s : State) (l : Lane) :
    ((s.followersOf l).foldl State.makeIndependent s).link =
      (s.postAll ((s.followersOf l).flatMap fun f => ((s.body? f).map (unlinkedPosts f)).getD [])).link := by
  refine link_foldl_lanes State.makeIndependent (fun _ => independent) unlinkedPosts (followersOf_nodup s l) s
    (fun u f k _ hu => by rw [State.body?_makeIndependent, hu]) (fun u f b _ hu hb => ?_) fun f hf => ?_
  · rw [State.makeIndependent_of_some (hu.trans hb)]
    refine State.postAll_link_congr ?_ _
    rfl
  · obtain ⟨b, -, hb, -⟩ := mem_followersOf.mp hf
    simp [hb]

/-- The lane released: its followers made independent, its pages given back, its budget returned. -/
def State.released (s : State) (l : Lane) (b : LaneBody) : State :=
  (((((s.followersOf l).foldl State.makeIndependent s).setBody l none).freePages l b.pages).setBudget l 0).post (some l)
    (.laneState none .message)

theorem State.bodiesFrom_makeIndependents (s : State) (l : Lane) :
    ((s.followersOf l).foldl State.makeIndependent s).BodiesFrom s :=
  State.bodiesFrom_foldl State.bodiesFrom_makeIndependent _ s

theorem State.released_body?_ne (s : State) (b : LaneBody) {k : Lane} (other : k ≠ l) :
    (s.released l b).body? k = if k ∈ s.followersOf l then (s.body? k).map independent else s.body? k :=
  (State.body?_setBody_ne _ _ other).trans (State.body?_makeIndependents s l k)

theorem State.released_counters (s : State) (l : Lane) (b : LaneBody) (k : Lane) :
    ((s.released l b).lanes.get k).counters = (s.lanes.get k).counters :=
  (State.counters_setBody _ _ _ _).trans ((State.bodiesFrom_makeIndependents s l).1 k)

theorem State.released_rest (s : State) (l : Lane) (b : LaneBody) :
    (s.released l b).store = { s.store.giveBack l b.pages with budget := s.store.budget.set l 0 } ∧
      (s.released l b).pending = s.pending ∧ (s.released l b).tick = s.tick ∧ (s.released l b).panel = s.panel := by
  obtain ⟨-, rest⟩ := State.bodiesFrom_makeIndependents s l
  unfold State.released
  rw [rest]
  exact ⟨rfl, rfl, rfl, rfl⟩

theorem State.released_link (s : State) (l : Lane) (b : LaneBody) : (s.released l b).link =
    (s.postAll (((s.followersOf l).flatMap fun f => ((s.body? f).map (unlinkedPosts f)).getD []) ++
      [(some l, .laneState none .message)])).link := by
  rw [State.postAll_append]
  refine State.post_link_congr ?_ _ _
  exact State.makeIndependents_link s l

theorem State.release_of_some (hb : s.body? l = some b) : s.release l = (s.released l b, .ok []) := by
  unfold State.release
  rw [hb]
  rfl

theorem State.release_of_none (off : s.body? l = none) : s.release l = (s, .ok []) := by
  unfold State.release
  rw [off]

end

end Sys2Proof.Machine

section
open Sys2Proof Sys2Proof.Machine

/-- Settles O36, by the conditions of R23 and what R26 makes of a follower. -/
theorem linkAndUnlinkJoinAndPartLanes : Obligations.LinkAndUnlinkJoinAndPartLanes := by
  refine ⟨fun s p r f l asks => ⟨fun off => ?_, fun fb lb hf hl => ?_⟩, fun s p r l asks => ⟨fun off => ?_, fun b hb => ?_⟩⟩
  · obtain ⟨_, _, code, _⟩ := id asks
    exact congrArg Host.Outcome.next (State.execute_asks asks (hasCode_of_code code) rfl
      ((linkMessage_apply _ p f l).trans (linkLanes_of_none (s := s.takeRequest p) off)))
  · obtain ⟨_, _, code, _⟩ := id asks
    have handled := (linkMessage_apply _ p f l).trans (linkLanes_of_some (s := s.takeRequest p) hf hl)
    dsimp only
    split
    · next met =>
      exact congrArg Host.Outcome.next (State.execute_asks asks (hasCode_of_code code) rfl (handled.trans (if_pos met)))
    · next unmet =>
      exact congrArg Host.Outcome.next (State.execute_asks asks (hasCode_of_code code) rfl (handled.trans (if_neg unmet)))
  · obtain ⟨_, _, code, _⟩ := id asks
    exact congrArg Host.Outcome.next (State.execute_asks asks (hasCode_of_code code) rfl
      ((laneMessage_apply _ _ p l).trans (onConfigured_of_none (s := s.takeRequest p) off _)))
  · obtain ⟨_, _, code, _⟩ := id asks
    have handled := (laneMessage_apply State.unlink _ p l).trans (unlink_of_some (s := s.takeRequest p) hb)
    split
    · next free =>
      exact congrArg Host.Outcome.next (State.execute_asks asks (hasCode_of_code code) rfl (handled.trans (if_pos free)))
    · next follows =>
      exact congrArg Host.Outcome.next (State.execute_asks asks (hasCode_of_code code) rfl (handled.trans (if_neg follows)))

/-- Settles O35: each follower is made independent by a change of its own body, and its postings come first. -/
theorem releaseTakesTheLaneOff : Obligations.ReleaseTakesTheLaneOff := by
  refine fun s p r l asks => ⟨fun off => ?_, fun b hb => ?_⟩
  · obtain ⟨_, _, code, _⟩ := id asks
    exact congrArg Host.Outcome.next (State.execute_asks asks (hasCode_of_code code) rfl
      ((laneMessage_apply _ _ p l).trans (State.release_of_none (s := s.takeRequest p) off)))
  obtain ⟨_, _, code, _⟩ := id asks
  obtain ⟨store, pending, tick, panel⟩ := (s.takeRequest p).released_rest l b
  refine ⟨(s.takeRequest p).released l b, ?_, State.body?_setBody_self _ _ _,
    fun k other => State.released_body?_ne (s.takeRequest p) b other, State.released_counters (s.takeRequest p) l b, ?_, ?_,
    pending, tick, panel, State.released_link (s.takeRequest p) l b⟩
  · exact congrArg Host.Outcome.next (State.execute_asks asks (effect := fun u => u.released l b) (hasCode_of_code code) rfl
      ((laneMessage_apply _ _ p l).trans (State.release_of_some (s := s.takeRequest p) hb)))
  · rw [store]
    exact freeList_foldl_pushPage _ _
  · rw [store]
    rfl

end

namespace Sys2Proof.Machine

section
variable {s t : State} {p : Port} {r : Request} {l f : Lane} {b c : LaneBody} {effect : State → State} {result : Result}
  {answer : List Byte}

/-! ### LANE_ENTER, LANE_EXIT and LANE_MARK on a lane that is no follower (R9, R11, R73) -/

theorem exec_laneEnter (asks : Asks s p r 0x28 [laneByte (some l)])
    (handled : (s.takeRequest p).enter l .message = (effect (s.takeRequest p), { result := result, body := answer })) :
    exec .laneEnter s = .next (served s p r effect result answer) := by
  obtain ⟨_, _, code, _⟩ := id asks
  exact congrArg Host.Outcome.next (State.execute_asks asks (hasCode_of_code code) rfl
    ((laneMessage_apply _ _ p l).trans handled))

theorem exec_laneExitGentle (asks : Asks s p r 0x29 [laneByte (some l), 0])
    (handled : (s.takeRequest p).exitGentle l .message = (effect (s.takeRequest p), { result := result, body := answer })) :
    exec .laneExitGentle s = .next (served s p r effect result answer) := by
  obtain ⟨_, _, code, body⟩ := id asks
  refine congrArg Host.Outcome.next (State.execute_asks asks (hasForm_of_body code ?_) rfl
    ((withLane_laneByte _ l _).trans handled))
  rw [body]
  show some (0 : Byte) ≠ some 1
  decide

/-- LANE_ENTER by the lane's state and target. -/
theorem enter_of_free (hb : s.body? l = some b) (free : b.link = none) (cause : Cause) : s.enter l cause =
    match b.mode, b.timing.target with
    | .pass, none => (s, .refuse .noTarget)
    | .drain, none => (s, .refuse .noTarget)
    | .pass, some _ =>
      ((s.setBody l (some { b with gov := { b.gov with engaged := true, since := 0 } })).changeMode l .build cause, .ok [])
    | .drain, some t =>
      if (t.frames : Int) - b.play.depth = 0 then
        ((s.setBody l (some { b with gov := { b.gov with engaged := false } })).changeMode l .onTarget cause, .ok [])
      else (s.changeMode l (if 0 < (t.frames : Int) - b.play.depth then .build else .trim) cause, .ok [])
    | _, _ => (s, .ok []) := by
  unfold State.enter
  refine (onIndependent_of_free hb free).trans ?_
  rcases b.mode with _ | _ | _ | _ | _ <;> rcases b.timing.target with _ | t <;> rfl

/-- The GENTLE form of LANE_EXIT by the lane's state. -/
theorem exitGentle_of_free (hb : s.body? l = some b) (free : b.link = none) (cause : Cause) : s.exitGentle l cause =
    if b.mode = .pass then (s, .refuse .notDelaying)
    else if b.mode = .drain then (s, .ok ([0, 0, 0] ++ be16 b.h))
    else ((s.setBody l (some (if b.gov.engaged then b
      else { b with gov := { b.gov with engaged := true, since := 0 } }))).changeMode l .drain cause,
        .ok ([0, 0, 0] ++ be16 b.h)) := by
  have settings : ({ b with gov := if b.gov.engaged then b.gov else { b.gov with engaged := true, since := 0 } } : LaneBody) =
      if b.gov.engaged then b else { b with gov := { b.gov with engaged := true, since := 0 } } := by
    split <;> rfl
  have report : ({ frames := 0, arrival := false, depth := b.h } : CutReport).bytes = [0, 0, 0] ++ be16 b.h := by
    simp [CutReport.bytes, be16, boolByte]
  unfold State.exitGentle
  rw [onIndependent_of_free hb free]
  dsimp only
  rw [settings, report]
  generalize (if b.gov.engaged = true then b else { b with gov := { b.gov with engaged := true, since := 0 } }) = d
  rcases b.mode with _ | _ | _ | _ | _ <;> simp

theorem setMark_of_free (hb : s.body? l = some b) (free : b.link = none) : s.setMark l =
    (s.setBody l (some { b with dl := { b.dl with mark := some b.newMark } }),
      .ok (be32 b.newMark.seq.toNat ++ [if b.intake.arrival.isSome then 2 else 1])) := by
  unfold State.setMark
  rw [onIndependent_of_free hb free]
  unfold LaneBody.newMark
  rcases b.intake.arrival with _ | f <;> rfl

end

end Sys2Proof.Machine

section
open Sys2Proof Sys2Proof.Machine

/-- Settles O41, state by state. -/
theorem enterExitAndMarkActOnTheLane : Obligations.EnterExitAndMarkActOnTheLane := by
  refine fun s p r l b hb free => ⟨fun asks => ?_, fun asks => ?_, fun asks => ?_⟩
  · have handled := enter_of_free (s := s.takeRequest p) hb free .message
    rcases mode : b.mode with _ | _ | _ | _ | _ <;> rcases target : b.timing.target with _ | t <;>
      simp only [mode, target] at handled ⊢
    case drain.some =>
      split
      · next reached => exact exec_laneEnter asks (handled.trans (if_pos reached))
      · next apart => exact exec_laneEnter asks (handled.trans (if_neg apart))
    all_goals exact exec_laneEnter asks handled
  · have handled := exitGentle_of_free (s := s.takeRequest p) hb free .message
    rcases mode : b.mode with _ | _ | _ | _ | _ <;> simp only [mode] at handled ⊢
    all_goals exact exec_laneExitGentle asks handled
  · obtain ⟨_, _, code, _⟩ := id asks
    refine congrArg Host.Outcome.next (State.execute_asks asks (hasCode_of_code code) rfl
      ((laneMessage_apply _ _ p l).trans ((setMark_of_free (s := s.takeRequest p) hb free).trans ?_)))
    unfold LaneBody.newMark
    rcases b.intake.arrival with _ | f <;> rfl

end

namespace Sys2Proof.Machine

section
variable {s t : State} {p : Port} {r : Request} {l f : Lane} {b c : LaneBody}

/-! ### LANE_STATUS (R129, R184) -/

theorem bitsByte_six (a b c d e f : Bool) : bitsByte [a, b, c, d, e, f] = BitVec.ofNat 8
    (a.toNat * 1 + b.toNat * 2 + c.toNat * 4 + d.toNat * 8 + e.toNat * 16 + f.toNat * 32) := by
  revert a b c d e f
  decide

theorem toNat_mul (x : Bool) (n : Nat) : x.toNat * n = if x then n else 0 := by cases x <;> simp

theorem LaneBody.flags_eq (b : LaneBody) : b.flags = BitVec.ofNat 8
    ((if b.gov.engaged && b.link.isNone then 1 else 0) + (if b.intake.loss then 2 else 0) +
      (if b.timing.target.isSome then 4 else 0) + (if b.timing.dump.ms == 0 then 8 else 0) +
      (if b.link.isSome then 16 else 0) + (if b.intake.arrival.isSome then 32 else 0)) := by
  rw [LaneBody.flags, bitsByte_six]
  simp only [toNat_mul]

theorem coverByte_eq (c : CoverSet) : coverByte c = BitVec.ofNat 8
    ((if c.control then 1 else 0) + (if c.panel then 2 else 0) + (if c.watch then 4 else 0) + (if c.leader then 8 else 0)) := by
  rw [coverByte, bitsByte_four]
  simp only [toNat_mul]

/-- The bit of a lane in a lane mask (R179). -/
def laneBit : Lane → Nat
  | .l1 => 1
  | .l2 => 2
  | .l3 => 4
  | .l4 => 8

theorem State.followersByte_eq (s : State) (l : Lane) :
    s.followersByte l = BitVec.ofNat 8 ((s.followersOf l).map laneBit).sum := by
  have sum (f : Lane → Bool) : bitsByte (allLanes.map f) = BitVec.ofNat 8 ((allLanes.filter f).map laneBit).sum := by
    simp only [allLanes, List.map_cons, List.map_nil, List.filter_cons, List.filter_nil]
    cases f .l1 <;> cases f .l2 <;> cases f .l3 <;> cases f .l4 <;> decide
  exact sum _

theorem LaneBody.reportedDev_eq (b : LaneBody) : b.reportedDev =
    if b.gov.ticked = false then 0
    else match b.mode with
      | .pass => 0
      | .drain => 1 - (b.play.depth : Int)
      | _ =>
        if b.link.isSome then (match b.timing.target with | none => 0 | some t => (t.frames : Int) - b.play.depth)
        else b.gov.dev := by
  unfold LaneBody.reportedDev LaneBody.deviation LaneBody.effectiveTarget
  rcases b.gov.ticked <;> rcases b.mode <;> rcases b.timing.target <;> rcases b.link <;> simp

theorem standingByte_eq (m : Option Mark) : standingByte m =
    match (m.map Mark.standing : Option Standing) with
    | none => 0
    | some .pending => 1
    | some .arriving => 2
    | some .held => 3
    | some (.gone .aired) => 4
    | some (.gone .removed) => 5 := by
  rcases m with _ | ⟨seq, _ | _ | _ | _ | _⟩ <;> rfl

theorem statusMessage_apply (s : State) (p : Port) (l : Lane) (v : Byte) (clear : Bool) :
    statusMessage s p [laneByte (some l), v, boolByte clear] =
      match s.laneView l v with
      | some bytes => (if clear then s.clearCounters l else s, .ok bytes)
      | none => (s, .refuse .badArgument) := by
  simp only [statusMessage, withLane_laneByte, boolOf_boolByte]
  cases s.laneView l v <;> rfl

theorem laneView_bad (s : State) (l : Lane) {v : Byte} (h : 2 < v.toNat) : s.laneView l v = none := by
  unfold State.laneView
  rw [if_neg (by rintro rfl; simp at h), if_neg (by rintro rfl; simp at h), if_neg (by rintro rfl; simp at h)]

theorem exec_laneStatus {v : Byte} {clear : Bool} {bytes : List Byte}
    (asks : AsksEither s p r 0x30 [laneByte (some l), v, boolByte clear]) (may : clear = true → s.link.controller = p)
    (view : (s.takeRequest p).laneView l v = some bytes) :
    exec .laneStatus s = .next (served s p r (fun u => if clear then u.clearCounters l else u) .ok bytes) := by
  obtain ⟨_, code, _⟩ := id asks
  have handled := statusMessage_apply (s.takeRequest p) p l v clear
  rw [view] at handled
  refine congrArg Host.Outcome.next (State.execute_permitted asks (hasCode_of_code code) rfl ?_ handled)
  cases clear with
  | false => simp [clearNeedsController, boolByte]
  | true => simp [clearNeedsController, State.controls, may rfl]

end

end Sys2Proof.Machine

section
open Sys2Proof Sys2Proof.Machine

/-- Settles O47: each view field by field. -/
theorem laneStatusShowsTheLane : Obligations.LaneStatusShowsTheLane := by
  intro s p r l view clear asks may bit body shown state k counters settings cleared
  refine ⟨fun v => ?_, fun v => ?_, fun v => ?_, fun bad => ?_⟩
  · subst v
    refine exec_laneStatus asks may ?_
    have same : (s.takeRequest p).stateView l = state := by
      funext b
      simp only [State.stateView, LaneBody.flags_eq, coverByte_eq, State.followersByte_eq, LaneBody.reportedDev_eq,
        standingByte_eq, settingBytes, List.append_assoc, state]
      rfl
    rw [State.laneView, if_pos rfl, same]
    rfl
  · subst v
    refine exec_laneStatus asks may ?_
    simp [State.laneView, LaneCounters.bytes, counters, k]
  · subst v
    refine exec_laneStatus asks may ?_
    have same : (s.takeRequest p).settingsView l = settings := by
      funext b
      simp [State.settingsView, GovSettings.bytes, CoverFill.bytes, Splice.bytes, settings]
    rw [State.laneView, if_neg (by decide), if_neg (by decide), if_pos rfl, same]
    rfl
  · obtain ⟨_, code, _⟩ := id asks
    have handled := statusMessage_apply (s.takeRequest p) p l view clear
    rw [laneView_bad _ l bad] at handled
    refine congrArg Host.Outcome.next (State.execute_permitted asks (hasCode_of_code code) rfl ?_ handled)
    cases clear with
    | false => simp [clearNeedsController, boolByte]
    | true => simp [clearNeedsController, State.controls, may rfl]

end

namespace Sys2Proof.Machine

section
variable {s t u : State} {p : Port} {r : Request} {l f : Lane} {b c : LaneBody} {kind : CutKind} {kept removed : List Record}
  {takeArrival : Bool} {answer : List Byte}

/-! ### Frames that leave a lane: their body, their pages and the packets dropped -/

/-- A lane that takes a new body, gives pages back and drops packets at a list. -/
theorem State.giveUp_eq (s : State) (l : Lane) (c : LaneBody) (pages : List PageNo) (departure : Bool) (dropped : List Packet) :
    ((s.setBody l (some c)).freePages l pages).dropPackets l departure dropped =
      { s with
        lanes := s.lanes.set l { body := some c, counters := (s.lanes.get l).counters.lose dropped }
        store := s.store.giveBack l pages
        link := (s.postAll (lostPosts l departure dropped)).link } := by
  rw [State.dropPackets_spec]
  have posted : (((s.setBody l (some c)).freePages l pages).postAll (lostPosts l departure dropped)).link =
      (s.postAll (lostPosts l departure dropped)).link := by
    refine State.postAll_link_congr ?_ _
    rfl
  rw [posted]
  simp [State.setBody, State.freePages]

theorem Store.giveBack_eq (st : Store) (l : Lane) (pages : List PageNo) :
    freeList (st.giveBack l pages).free = freeList st.free ++ pages ∧
    st.giveBack l pages = { st with
      free := (st.giveBack l pages).free, inUse := st.inUse.set l (st.inUse.get l - pages.length) } :=
  ⟨freeList_foldl_pushPage pages st.free, rfl⟩

/-! ### What every cut does (R131, R132, R134) -/

theorem LaneBody.removableArrival_eq (b : LaneBody) : b.removableArrival = b.intake.arrival.any fun f => !f.discard := by
  unfold LaneBody.removableArrival
  cases b.intake.arrival <;> rfl

/-- The packets a cut offers to the carried-packet list (R131, R132). -/
def LaneBody.cutBatch (b : LaneBody) (kind : CutKind) (kept removed : List Record) (takeArrival : Bool) : List Packet :=
  let arrival := takeArrival && b.removableArrival
  recordsCarry removed ++ b.spliceFor kind
    { frames := removed.length + (if arrival then 1 else 0), arrival := arrival, depth := kept.length }

theorem State.cut_eq (s : State) (l : Lane) (b : LaneBody) (kind : CutKind) (kept removed : List Record)
    (takeArrival mapped : Bool) :
    let arrival := takeArrival && b.removableArrival
    let frames := removed.length + (if arrival then 1 else 0)
    let dropped := (b.cutBatch kind kept removed takeArrival).drop (32 - b.dl.carried.length)
    s.cut l b kind kept removed takeArrival mapped =
      ({ s with
        lanes := s.lanes.set l
          { body := some (b.afterCut kind kept removed takeArrival), counters := (s.lanes.get l).counters.lose dropped }
        store := s.store.giveBack l (recordsPages removed)
        link := (s.postAll (lostPosts l false dropped ++ [(some l, .dumpDone kind frames mapped)])).link },
       { frames := frames, arrival := arrival, depth := kept.length }) := by
  unfold State.cut
  dsimp only
  rw [State.giveUp_eq, State.postAll_append]
  rfl

theorem LaneBody.spliceFor_eq (b : LaneBody) (kind : CutKind) (x : CutReport) : b.spliceFor kind x =
    if b.splice.enabled = true ∧ 0 < x.frames then
      [{ source := .splice, type := b.splice.type
         payload := be16 x.frames ++ [match kind with | .dump => 1 | .mark => 2 | .exit => 3] ++
           be16 (min 65535 (toMs b.fmt.rate x.depth)) }]
    else [] := by
  unfold LaneBody.spliceFor splicePayload
  cases kind <;> rfl

/-! ### A cut mapped onto the followers (R148 to R150) -/

theorem State.leaderOf?_cut (hb : s.body? l = some b) (link : c.link = b.link) (mapped : Bool) (k : Lane) :
    (s.cut l c kind kept removed takeArrival mapped).1.leaderOf? k = s.leaderOf? k := by
  unfold State.leaderOf?
  rw [State.body?_cut]
  split
  · next same => rw [same, hb]; exact congrArg (Option.map FollowerLink.leader) link
  · rfl

theorem State.followersOf_cut (hb : s.body? l = some b) (mapped : Bool) (k : Lane) :
    (s.cut l b kind kept removed takeArrival mapped).1.followersOf k = s.followersOf k :=
  followersOf_congr (State.leaderOf?_cut hb rfl mapped) k

/-- An operation on lanes one after another, each of which reads its own lane's body and changes no other's, reads the
bodies as they stood before the first. -/
theorem foldl_own_bodies {op : State → Lane → State} {act : State → Lane → Option LaneBody → State}
    (reads : ∀ u f, op u f = act u f (u.body? f))
    (own : ∀ u f x k, k ≠ f → (act u f x).body? k = u.body? k) {fs : List Lane} (once : fs.Nodup) (u : State)
    (same : ∀ f ∈ fs, u.body? f = s.body? f) : fs.foldl op u = fs.foldl (fun u f => act u f (s.body? f)) u := by
  induction fs generalizing u with
  | nil => rfl
  | cons f fs ih =>
    obtain ⟨fresh, once⟩ := List.nodup_cons.mp once
    rw [List.foldl_cons, List.foldl_cons, reads, same f List.mem_cons_self]
    refine ih once _ fun k hk => ?_
    rw [own u f _ k (ne_of_mem_of_not_mem hk fresh)]
    exact same k (List.mem_cons_of_mem f hk)

/-- A follower reads its body as it stood before its leader's cut. -/
theorem State.body?_cut_follower (hb : s.body? l = some b) (free : b.link = none) (mapped : Bool) (hf : f ∈ s.followersOf l) :
    (s.cut l b kind kept removed takeArrival mapped).1.body? f = s.body? f := by
  rw [State.body?_cut, if_neg (ne_of_mem_of_not_mem hf (not_mem_followersOf_self hb free))]

/-- A follower's cut by its leader's, on the body it is given (R149). -/
def State.mapCutOn (kind : CutKind) (first last : Seq) (u : State) (f : Lane) (x : Option LaneBody) : State :=
  match x with
  | none => u
  | some b =>
    match b.link with
    | none => u
    | some k =>
      (u.cut f { b with intake.discardThrough := raiseDiscard b.intake.discardThrough (last - k.off) } kind
        (b.dl.records.filter fun r => !inMappedRange k.off first last r.seq)
        (b.dl.records.filter fun r => inMappedRange k.off first last r.seq)
        ((b.intake.arrival.map fun a => inMappedRange k.off first last a.seq).getD false) true).1

/-- A follower's whole-line cut by its leader's exit, on the body it is given (R150). -/
def State.mapExitOn (last : Seq) (u : State) (f : Lane) (x : Option LaneBody) : State :=
  match x with
  | none => u
  | some b =>
    match b.link with
    | none => u
    | some k =>
      (u.cut f { b with
        intake.discardThrough :=
          if k.leaderMoved then raiseDiscard b.intake.discardThrough (last - k.off) else b.intake.discardThrough
        link := some { k with pending := 0 } } .exit [] b.dl.records true true).1

theorem State.mapCut_eq (s : State) (f : Lane) (kind : CutKind) (first last : Seq) :
    s.mapCut f kind first last = State.mapCutOn kind first last s f (s.body? f) := rfl

theorem State.mapExit_eq (s : State) (f : Lane) (last : Seq) : s.mapExit f last = State.mapExitOn last s f (s.body? f) := rfl

theorem State.body?_mapCutOn (kind : CutKind) (first last : Seq) (u : State) (f : Lane) (x : Option LaneBody) (k : Lane)
    (other : k ≠ f) : (State.mapCutOn kind first last u f x).body? k = u.body? k := by
  unfold State.mapCutOn
  split
  · rfl
  · split
    · rfl
    · rw [State.body?_cut, if_neg other]

theorem State.body?_mapExitOn (last : Seq) (u : State) (f : Lane) (x : Option LaneBody) (k : Lane) (other : k ≠ f) :
    (State.mapExitOn last u f x).body? k = u.body? k := by
  unfold State.mapExitOn
  split
  · rfl
  · split
    · rfl
    · rw [State.body?_cut, if_neg other]

theorem raiseDiscard_eq (v : Option Seq) (e : Seq) : raiseDiscard v e = some (match v with
    | none => e
    | some v => if 1 ≤ (e - v).toNat ∧ (e - v).toNat ≤ 2147483647 then e else v) := by
  unfold raiseDiscard laterThan
  cases v with
  | none => rfl
  | some v =>
    simp only [Bool.and_eq_true, decide_eq_true_eq]
    split <;> rfl

theorem LaneBody.oldestRemoved_eq (b : LaneBody) (removed : List Record) : b.oldestRemoved removed =
    match removed, b.intake.arrival with
    | r :: _, _ => r.seq
    | [], some f => f.seq
    | [], none => b.intake.nextSeq := by
  unfold LaneBody.oldestRemoved
  cases removed <;> cases b.intake.arrival <;> rfl

theorem State.leadCut_eq (hb : s.body? l = some b) (free : b.link = none) (kind : CutKind) (kept removed : List Record)
    (takeArrival : Bool) : s.leadCut l b kind kept removed takeArrival =
      let own := s.cut l b kind kept removed takeArrival false
      (if own.2.frames = 0 then own.1
       else (s.followersOf l).foldl (fun u f =>
         State.mapCutOn kind (b.oldestRemoved removed) (b.intake.nextSeq - 1) u f (s.body? f)) own.1, own.2) := by
  unfold State.leadCut
  dsimp only
  split
  · rfl
  · rw [State.followersOf_cut hb, foldl_own_bodies (State.mapCut_eq · · _ _ _) (State.body?_mapCutOn _ _ _)
      (followersOf_nodup s l) _ fun f hf => State.body?_cut_follower hb free false hf]

/-! ### Dumps and cuts to the mark (R135, R138) -/

theorem dump_of_pass (hb : s.body? l = some b) (free : b.link = none) (pass : b.mode = .pass) :
    s.dump l = (s, .refuse .notDelaying) :=
  (onIndependent_of_free hb free).trans (if_pos pass)

theorem dump_of_free (hb : s.body? l = some b) (free : b.link = none) (delays : b.mode ≠ .pass)
    (line : b.dl.records = kept ++ removed) (size : removed.length = min b.dumpSize b.h) :
    let c := s.leadCut l b .dump kept removed true
    s.dump l = (c.1, { result := if b.h < b.dumpSize then .partialCut else .ok, body := c.2.bytes }) := by
  have length : b.h - min b.dumpSize b.h = kept.length := by
    rw [← size]
    simp [LaneBody.h, line]
  refine (onIndependent_of_free hb free).trans ((if_neg delays).trans ?_)
  dsimp only
  rw [length, line, List.take_left, List.drop_left]

theorem cutToMark_of_pass (hb : s.body? l = some b) (free : b.link = none) (pass : b.mode = .pass) :
    s.cutToMark l = (s, .refuse .notDelaying) :=
  (onIndependent_of_free hb free).trans (if_pos pass)

theorem cutToMark_of_unmarked (hb : s.body? l = some b) (free : b.link = none) (delays : b.mode ≠ .pass)
    (unmarked : b.dl.mark = none) : s.cutToMark l = (s, .refuse .noMark) := by
  refine (onIndependent_of_free hb free).trans ((if_neg delays).trans ?_)
  rw [unmarked]

theorem cutToMark_of_marked {m : Mark} (hb : s.body? l = some b) (free : b.link = none) (delays : b.mode ≠ .pass)
    (marked : b.dl.mark = some m) (split : markCut m b.dl.records = (kept, removed, takeArrival)) :
    let c := s.leadCut l b .mark kept removed takeArrival
    s.cutToMark l = (c.1.modBody l fun x => { x with dl.mark := none },
      { result := if m.standing = .gone .aired then .markAired else .ok, body := c.2.bytes }) := by
  refine (onIndependent_of_free hb free).trans ((if_neg delays).trans ?_)
  rw [marked]
  dsimp only
  rw [split]

/-- What a cut to the mark removes, by the mark's standing (R138 to R141). -/
def MarkSplits (m : Mark) (kept removed : List Record) : Prop :=
  match m.standing with
  | .held => (∀ x ∈ kept, x.seq ≠ m.seq) ∧ (removed.head?.map (·.seq)) = some m.seq
  | .arriving | .pending => removed = []
  | .gone .aired => kept = []
  | .gone .removed =>
    (∀ x ∈ kept, ¬(1 ≤ (x.seq - m.seq).toNat ∧ (x.seq - m.seq).toNat ≤ 2147483647)) ∧
    ∀ x ∈ removed, 1 ≤ (x.seq - m.seq).toNat ∧ (x.seq - m.seq).toNat ≤ 2147483647

theorem laterThan_iff (x y : Seq) : laterThan x y = true ↔ 1 ≤ (x - y).toNat ∧ (x - y).toNat ≤ 2147483647 := by
  simp [laterThan]

theorem filter_append_all {α : Type} {p : α → Bool} {xs ys : List α} (out : ∀ x ∈ xs, p x = false)
    (into : ∀ y ∈ ys, p y = true) : (xs ++ ys).filter p = ys := by
  rw [List.filter_append, List.filter_eq_nil_iff.mpr fun x hx => by simp [out x hx], List.filter_eq_self.mpr into,
    List.nil_append]

theorem filter_not_append_all {α : Type} {p : α → Bool} {xs ys : List α} (out : ∀ x ∈ xs, p x = false)
    (into : ∀ y ∈ ys, p y = true) : ((xs ++ ys).filter fun x => !p x) = xs := by
  rw [List.filter_append, List.filter_eq_self.mpr fun x hx => by simp [out x hx],
    List.filter_eq_nil_iff.mpr fun y hy => by simp [into y hy], List.append_nil]

theorem markCut_of_splits {m : Mark} (splits : MarkSplits m kept removed) :
    markCut m (kept ++ removed) = (kept, removed, decide (m.standing ≠ .pending)) := by
  unfold MarkSplits at splits
  unfold markCut
  cases standing : m.standing with
  | held =>
    simp only [standing] at splits
    obtain ⟨before, first⟩ := splits
    have passes : ∀ x ∈ kept, (x.seq != m.seq) = true := fun x hx => bne_iff_ne.mpr (before x hx)
    cases removed with
    | nil => cases first
    | cons x xs =>
      have stops : (x.seq != m.seq) = false := by simpa using Option.some.inj first
      dsimp only
      rw [List.takeWhile_append_of_pos passes, List.dropWhile_append_of_pos passes]
      simp [stops]
  | arriving =>
    simp only [standing] at splits
    subst splits
    simp
  | pending =>
    simp only [standing] at splits
    subst splits
    simp
  | gone why =>
    cases why with
    | aired =>
      simp only [standing] at splits
      subst splits
      simp
    | removed =>
      simp only [standing] at splits
      obtain ⟨out, into⟩ := splits
      have early : ∀ x ∈ kept, laterThan x.seq m.seq = false := fun x hx =>
        Bool.eq_false_iff.mpr fun later => out x hx ((laterThan_iff _ _).mp later)
      have late : ∀ x ∈ removed, laterThan x.seq m.seq = true := fun x hx => (laterThan_iff _ _).mpr (into x hx)
      dsimp only
      rw [filter_append_all early late, filter_not_append_all early late]
      rfl

theorem exec_laneDump {u : State} {result : Result} (asks : Asks s p r 0x2A [laneByte (some l)])
    (handled : (s.takeRequest p).dump l = (u, { result := result, body := answer })) :
    exec .laneDump s = .next (u.reply p r { result := result, body := answer }) := by
  obtain ⟨_, _, code, _⟩ := id asks
  exact congrArg Host.Outcome.next (State.execute_asks (effect := fun _ => u) asks (hasCode_of_code code) rfl
    ((laneMessage_apply _ _ p l).trans handled))

theorem exec_laneCutToMark {u : State} {result : Result} (asks : Asks s p r 0x2C [laneByte (some l)])
    (handled : (s.takeRequest p).cutToMark l = (u, { result := result, body := answer })) :
    exec .laneCutToMark s = .next (u.reply p r { result := result, body := answer }) := by
  obtain ⟨_, _, code, _⟩ := id asks
  exact congrArg Host.Outcome.next (State.execute_asks (effect := fun _ => u) asks (hasCode_of_code code) rfl
    ((laneMessage_apply _ _ p l).trans handled))

/-! ### LANE_EXIT NOW (R12, R143, R150) -/

theorem exec_laneExitNow {u : State} {result : Result} (asks : Asks s p r 0x29 [laneByte (some l), 1])
    (handled : (s.takeRequest p).exitNow l = (u, { result := result, body := answer })) :
    exec .laneExitNow s = .next (u.reply p r { result := result, body := answer }) := by
  obtain ⟨_, _, code, body⟩ := id asks
  refine congrArg Host.Outcome.next (State.execute_asks (effect := fun _ => u) asks (hasForm_of_body code ?_) rfl
    ((withLane_laneByte _ l _).trans handled))
  rw [body]
  show some (1 : Byte) ≠ some 0
  decide

theorem exitNow_of_pass (hb : s.body? l = some b) (free : b.link = none) (pass : b.mode = .pass) :
    s.exitNow l = (s, .refuse .notDelaying) :=
  (onIndependent_of_free hb free).trans (if_pos pass)

theorem exitNow_of_free (hb : s.body? l = some b) (free : b.link = none) (delays : b.mode ≠ .pass) :
    let own := s.cut l b .exit [] b.dl.records true false
    let cutAll := (s.followersOf l).foldl
      (fun u f => State.mapExitOn (b.intake.nextSeq - 1) u f (s.body? f)) own.1
    s.exitNow l = ((cutAll.modBody l fun x => { x with gov := x.gov.entersPass }).changeMode l .pass .message,
      .ok own.2.bytes) := by
  refine (onIndependent_of_free hb free).trans ((if_neg delays).trans ?_)
  dsimp only
  rw [State.followersOf_cut hb, foldl_own_bodies (State.mapExit_eq · · _) (State.body?_mapExitOn _) (followersOf_nodup s l) _
    fun f hf => State.body?_cut_follower hb free false hf]

end

end Sys2Proof.Machine

section
open Sys2Proof Sys2Proof.Machine

/-- Settles O43, from the state a cut leaves. -/
theorem cutsRemoveWhatTheyName : Obligations.CutsRemoveWhatTheyName := by
  intro s l b kind kept removed takeArrival mapped
  have cut := State.cut_eq s l b kind kept removed takeArrival mapped
  unfold LaneBody.afterCut LaneBody.cutBatch at cut
  simp only [LaneBody.spliceFor_eq, LaneBody.removableArrival_eq] at cut
  dsimp only
  rw [cut]
  obtain ⟨tail, rest⟩ := Store.giveBack_eq s.store l (recordsPages removed)
  refine ⟨rfl, ?_, ?_, fun k other => PerLane.get_set_ne _ _ other, tail, rest, rfl, rfl⟩
  · rw [State.body?, PerLane.get_set_self]; rfl
  · rw [PerLane.get_set_self]; rfl

/-- Settles O44, from the cut of the lane and of each follower on its body before. -/
theorem leaderCutIsMappedOnItsFollowers : Obligations.LeaderCutIsMappedOnItsFollowers := by
  intro s l b kind kept removed takeArrival hb free
  dsimp only
  rw [State.leadCut_eq hb free, LaneBody.oldestRemoved_eq]
  dsimp only
  refine congrArg (fun g => ((if _ = 0 then _ else List.foldl g _ _), _)) (funext fun u => funext fun f => ?_)
  unfold State.mapCutOn
  cases s.body? f with
  | none => rfl
  | some fb =>
    dsimp only
    cases fb.link with
    | none => rfl
    | some k =>
      dsimp only
      rw [raiseDiscard_eq]
      unfold inMappedRange
      cases fb.intake.arrival <;> rfl

end

section
open Sys2Proof Sys2Proof.Machine

/-- Settles O45, by the lane's state and, for a cut to the mark, by the mark's standing. -/
theorem dumpsAndCutsToMark : Obligations.DumpsAndCutsToMark := by
  refine fun s p r l b hb free => ⟨fun asks => ⟨fun pass => ?_, fun kept removed delays line size => ?_⟩,
    fun asks => ⟨fun pass => ?_, fun delays unmarked => ?_, fun m kept removed delays marked line splits => ?_⟩⟩
  · exact exec_laneDump asks (dump_of_pass (s := s.takeRequest p) hb free pass)
  · exact exec_laneDump asks (dump_of_free (s := s.takeRequest p) hb free delays line size)
  · exact exec_laneCutToMark asks (cutToMark_of_pass (s := s.takeRequest p) hb free pass)
  · exact exec_laneCutToMark asks (cutToMark_of_unmarked (s := s.takeRequest p) hb free delays unmarked)
  · have holds : MarkSplits m kept removed := by
      revert splits
      unfold MarkSplits
      rcases m.standing with _ | _ | _ | _ | _ <;> exact id
    have split := (congrArg (markCut m) line).trans (markCut_of_splits holds)
    exact exec_laneCutToMark asks (cutToMark_of_marked (s := s.takeRequest p) hb free delays marked split)

/-- Settles O46, from the cut of the lane and of each follower on its body before. -/
theorem exitNowEmptiesTheLine : Obligations.ExitNowEmptiesTheLine := by
  refine fun s p r l b hb free asks => ⟨fun pass => ?_, fun delays => ?_⟩
  · exact exec_laneExitNow asks (exitNow_of_pass (s := s.takeRequest p) hb free pass)
  · refine (exec_laneExitNow asks (exitNow_of_free (s := s.takeRequest p) hb free delays)).trans ?_
    dsimp only
    refine congrArg (fun g => Host.Outcome.next
      (((State.modBody (List.foldl g _ _) l _).changeMode l .pass .message).reply p r _))
      (funext fun u => funext fun f => ?_)
    unfold State.mapExitOn
    change (match s.body? f with | none => _ | some b => _) = _
    cases s.body? f with
    | none => rfl
    | some fb =>
      dsimp only
      cases fb.link with
      | none => rfl
      | some k =>
        dsimp only
        refine (congrArg (fun v => (u.cut f { fb with
          intake.discardThrough := if k.leaderMoved then v else fb.intake.discardThrough
          link := some { k with pending := 0 } } .exit [] fb.dl.records true true).1) (raiseDiscard_eq _ _)).trans ?_
        rfl

end

namespace Sys2Proof.Machine

section
variable {s t u : State} {l f : Lane} {b c : LaneBody}

/-! ### The full-line check (R44, R83) -/

/-- One head's batch joining the front of the departure packet list (R83): the list, and the packets dropped so far. -/
def joinHead (a : List Packet × List Packet) (r : Record) : List Packet × List Packet :=
  (r.carryCopy.take (32 - a.1.length) ++ a.1, a.2 ++ r.carryCopy.drop (32 - a.1.length))

theorem foldl_joinHead (rs : List Record) (list dropped : List Packet) :
    rs.foldl joinHead (list, dropped) = ((headBatches list rs).1, dropped ++ (headBatches list rs).2) := by
  induction rs generalizing list dropped with
  | nil => simp [headBatches]
  | cons r rs ih =>
    rw [List.foldl_cons, joinHead, ih, headBatches, joinFront, List.append_assoc]

theorem State.foldl_post (note : Record → Option Lane × Detail) (rs : List Record) (s : State) :
    rs.foldl (fun u r => u.post (note r).1 (note r).2) s = s.postAll (rs.map note) := by
  rw [State.postAll, List.foldl_map]

/-- What a full-line check counts and posts of the heads it discards (R44). -/
def LaneCounters.crowded (x : LaneCounters) (m : Mode) (n : Nat) : LaneCounters :=
  if m = .pass then { x with slip := satAdd 65535 x.slip n } else { x with overflow := satAdd 65535 x.overflow n }

def crowdedPosts (l : Lane) (m : Mode) (gone : List Record) : List (Option Lane × Detail) :=
  if m = .pass then [] else gone.map fun r => (some l, .overflow r.seq)

theorem State.eq_postAll_link (s : State) (xs : List (Option Lane × Detail)) :
    s.postAll xs = { s with link := (s.postAll xs).link } := by
  induction xs generalizing s with
  | nil => rfl
  | cons x xs ih => rw [State.postAll_cons, ih]; rfl

theorem State.fullLineCheck_eq (hb : s.body? l = some b) :
    let gone := b.dl.records.take b.excess
    let dropped := (headBatches b.dl.departing gone).2
    s.fullLineCheck l =
      { s with
        lanes := s.lanes.set l
          { body := some b.checked, counters := ((s.lanes.get l).counters.lose dropped).crowded b.mode gone.length }
        store := s.store.giveBack l (recordsPages gone)
        link := (s.postAll (lostPosts l true dropped ++ crowdedPosts l b.mode gone)).link } := by
  unfold State.fullLineCheck
  rw [hb]
  dsimp only
  rw [State.giveUp_eq, State.postAll_append]
  unfold LaneCounters.crowded crowdedPosts
  split
  · simp only [State.count, PerLane.set_set, PerLane.get_set_self]
    rfl
  · rw [State.foldl_post fun r => (some l, .overflow r.seq), State.eq_postAll_link]
    simp only [State.count, PerLane.set_set, PerLane.get_set_self]
    refine congrArg (fun x => ({ s with lanes := _, store := _, link := x } : State)) (State.postAll_link_congr ?_ _)
    rfl

theorem State.leaderOf?_fullLineCheck (s : State) (l k : Lane) : (s.fullLineCheck l).leaderOf? k = s.leaderOf? k := by
  unfold State.leaderOf?
  rw [State.body?_fullLineCheck]
  split
  · next same =>
    rw [same]
    cases s.body? l <;> rfl
  · rfl

theorem State.followersOf_fullLineCheck (s : State) (l k : Lane) : (s.fullLineCheck l).followersOf k = s.followersOf k :=
  followersOf_congr (State.leaderOf?_fullLineCheck s l) k

theorem body_of_fullLineCheck (hb : s.body? l = some b) (hc : (s.fullLineCheck l).body? l = some c) : c = b.checked := by
  rw [State.body?_fullLineCheck, if_pos rfl, hb] at hc
  exact (Option.some.inj hc).symm

/-! ### A frame that takes the next seq (R45, R61) -/

/-- Whether a lane's next frame is within its discard-through value (R61). -/
def LaneBody.discards (b : LaneBody) (q : Seq) : Bool :=
  b.link.isSome && b.intake.discardThrough.any fun v => decide ((v - q).toNat < 2147483648)

theorem discardTest_eq (b : LaneBody) (q : Seq) : discardTest b q =
    (b.discards q,
      if b.link = none then b.intake.discardThrough
      else if b.discards q = true ∧ b.intake.discardThrough ≠ some q then b.intake.discardThrough else none) := by
  unfold discardTest LaneBody.discards withinDiscard
  cases b.link with
  | none => simp
  | some k =>
    cases b.intake.discardThrough with
    | none => simp
    | some v =>
      by_cases within : (v - q).toNat < 2147483648
      · by_cases last : q = v
        · subst last
          simp [-BitVec.toNat_sub]
        · simp [-BitVec.toNat_sub, within, last, Ne.symm last]
      · simp [-BitVec.toNat_sub, within]

theorem CoverSet.isEmpty_not (x : CoverSet) : (!x.isEmpty) = decide (x ≠ .empty) := by
  rw [Bool.eq_iff_iff, Bool.not_eq_true', Bool.eq_false_iff, ne_eq, CoverSet.isEmpty_iff, decide_eq_true_eq]

/-- A lane that takes a new body and then its next-seq (R45; log 26). -/
theorem State.takeSeq_setBody (hb : s.body? l = some b) (link : c.link = b.link) (self : s.leaderOf? l ≠ some l) :
    let t := (s.setBody l (some c)).takeSeq l
    (∀ k, t.body? k = if k = l then some { c with intake.nextSeq := c.intake.nextSeq + 1 }
      else if k ∈ s.followersOf l then (s.body? k).map LaneBody.noted else s.body? k) ∧
    (∀ k, (t.lanes.get k).counters = (s.lanes.get k).counters) ∧ t = { s with lanes := t.lanes } := by
  have followers := State.followersOf_setBody (k := l) hb link
  have from_s := (State.takeSeq_bodiesFrom (s.setBody l (some c)) l).trans (State.bodiesFrom_setBody s l _)
  refine ⟨fun k => ?_, from_s.1, from_s.eq_lanes (State.takeSeq_link _ l)⟩
  rw [State.body?_takeSeq (by rw [followers]; exact not_mem_followersOf_iff.mpr self), followers, State.body?_setBody_self]
  by_cases same : k = l
  · rw [if_pos same, if_pos same]
    rfl
  · rw [if_neg same, if_neg same, State.body?_setBody_ne _ _ same]

end

end Sys2Proof.Machine

section
open Sys2Proof Sys2Proof.Machine

/-- Settles O48, from the state a full-line check leaves. -/
theorem fullLineDiscardsTheHeads : Obligations.FullLineDiscardsTheHeads := by
  intro s l b gone rest hb
  dsimp only
  intro line count
  have excess : gone.length = b.excess := count
  have heads : b.dl.records.take b.excess = gone := by rw [line, ← excess, List.take_left]
  have left : b.dl.records.drop b.excess = rest := by rw [line, ← excess, List.drop_left]
  have joined := foldl_joinHead gone b.dl.departing []
  rw [List.nil_append] at joined
  have check := State.fullLineCheck_eq hb
  unfold LaneBody.checked at check
  simp only [heads, left] at check
  unfold joinHead at joined
  rw [joined, check]
  obtain ⟨tail, store⟩ := Store.giveBack_eq s.store l (recordsPages gone)
  refine ⟨?_, ?_, fun k other => PerLane.get_set_ne _ _ other, tail, store, rfl, rfl⟩
  · rw [State.body?, PerLane.get_set_self]; rfl
  · rw [PerLane.get_set_self]; rfl

end

namespace Sys2Proof.Machine

section
variable {s t u : State} {l f : Lane} {b c : LaneBody} {raster : Raster} {d : Delivery}

/-! ### ARRIVAL_START (R43, R46) -/

theorem exec_arrivalStart (raster : Raster) (ok : d.ok = true) (s : State) : exec (.arrivalStart l raster d) s =
    match ((s.truncateArrival l d).fullLineCheck l).body? l with
    | none => .next s
    | some b =>
      match ((s.truncateArrival l d).fullLineCheck l).store.allocate l (pagesPerFrame b.fmt.vclass) with
      | none => .fault .poolExhausted
      | some (pages, store) =>
        .next (({ (s.truncateArrival l d).fullLineCheck l with store := store } : State).beginFrame l b raster pages) := by
  show execArrivalStart l raster d s = _
  unfold execArrivalStart
  rw [ok]
  rfl

theorem truncateArrival_of_off (off : s.body? l = none) : s.truncateArrival l d = s := by
  unfold State.truncateArrival
  rw [off]

theorem truncateArrival_of_waiting (hb : s.body? l = some b) (waits : b.intake.arrival = none) :
    s.truncateArrival l d = s := by
  unfold State.truncateArrival
  rw [hb]
  dsimp only
  rw [waits]

theorem truncateArrival_of_arriving {a : InArrival} (hb : s.body? l = some b) (arrives : b.intake.arrival = some a) :
    s.truncateArrival l d = s.completeFrame l b a d true := by
  unfold State.truncateArrival
  rw [hb]
  dsimp only
  rw [arrives]

theorem exec_arrivalStart_of_off (ok : d.ok = true) (off : s.body? l = none) :
    exec (.arrivalStart l raster d) s = .next s := by
  rw [exec_arrivalStart raster ok, truncateArrival_of_off off, State.body?_fullLineCheck, if_pos rfl, off]
  rfl

theorem exec_arrivalStart_of_arriving {a : InArrival} (ok : d.ok = true) (hb : s.body? l = some b)
    (arrives : b.intake.arrival = some a) :
    exec (.arrivalStart l raster d) s = exec (.arrivalStart l raster d) (s.completeFrame l b a d true) := by
  obtain ⟨e, he, waits⟩ : ∃ e, (s.completeFrame l b a d true).body? l = some e ∧ e.intake.arrival = none :=
    ⟨_, by rw [State.body?_completeFrame, if_pos rfl], b.completed_arrival a d _⟩
  rw [exec_arrivalStart raster ok, exec_arrivalStart raster ok, truncateArrival_of_arriving hb arrives,
    truncateArrival_of_waiting he waits, State.body?_fullLineCheck, if_pos rfl, he]
  rfl

theorem exec_arrivalStart_of_waiting {pages : List PageNo} {store : Store} (ok : d.ok = true) (hb : s.body? l = some b)
    (waits : b.intake.arrival = none) (hc : (s.fullLineCheck l).body? l = some c)
    (room : (s.fullLineCheck l).store.allocate l (pagesPerFrame c.fmt.vclass) = some (pages, store)) :
    exec (.arrivalStart l raster d) s =
      .next (({ s.fullLineCheck l with store := store } : State).beginFrame l c raster pages) := by
  rw [exec_arrivalStart raster ok, truncateArrival_of_waiting hb waits, hc]
  dsimp only
  rw [room]

theorem State.beginFrame_eq (s : State) (l : Lane) (b : LaneBody) (raster : Raster) (pages : List PageNo) :
    s.beginFrame l b raster pages = (s.setBody l (some { b with
      intake.arrival := some (b.starting raster pages)
      intake.discardThrough := (discardTest b b.intake.nextSeq).2
      dl.mark := markStarts b.dl.mark b.intake.nextSeq .arriving })).takeSeq l := rfl

end

end Sys2Proof.Machine

section
open Sys2Proof Sys2Proof.Machine

/-- Settles O49, by the lane: OFF, with a frame in arrival, or waiting for one. -/
theorem arrivalStartTakesPagesAndSeq : Obligations.ArrivalStartTakesPagesAndSeq := by
  refine fun s l raster cut ok => ⟨exec_arrivalStart_of_off ok, fun b f hb arrives =>
    exec_arrivalStart_of_arriving ok hb arrives, fun b c hb waits self hc => ?_⟩
  have checked := body_of_fullLineCheck hb hc
  have followers := State.followersOf_fullLineCheck s l l
  have self' : (s.fullLineCheck l).leaderOf? l ≠ some l := by rwa [State.leaderOf?_fullLineCheck]
  intro u ppf q within moved room
  obtain ⟨store, allocated, head, rest⟩ := Store.allocate_of_room l room
  have fmt : c.fmt = b.fmt := by rw [checked]; rfl
  have intake : c.intake = b.intake := by rw [checked]; rfl
  obtain ⟨bodies, counters, kept⟩ := State.takeSeq_setBody (s := { u with store := store }) (b := c) (c := { c with
    intake.arrival := some (c.starting raster ((freeList u.store.free).take ppf))
    intake.discardThrough := (discardTest c c.intake.nextSeq).2
    dl.mark := markStarts c.dl.mark c.intake.nextSeq .arriving }) hc rfl self'
  have run := exec_arrivalStart_of_waiting (raster := raster) ok hb waits hc (by rw [fmt]; exact allocated)
  refine ⟨_, run, ?_, fun k other => ?_, counters, ?_, ?_, ?_⟩
  · refine (bodies l).trans ((if_pos rfl).trans ?_)
    unfold LaneBody.starting
    rw [discardTest_eq, CoverSet.isEmpty_not]
    subst checked
    rfl
  · refine (bodies k).trans ((if_neg other).trans ?_)
    rw [← followers]
    rfl
  · rw [State.beginFrame_eq, kept]; exact head
  · rw [State.beginFrame_eq, kept]; exact rest
  · rw [State.beginFrame_eq, kept]

end

namespace Sys2Proof.Machine

section
variable {s t u : State} {l f : Lane} {b c : LaneBody} {a : InArrival} {ty : PacketType} {payload : List Byte}

/-! ### Watch hits (R57, R58) -/

/-- A watch hit's effect, on a lane that follows or does not (R58, R27). -/
def State.hitOn (l : Lane) (seq : Seq) (linked : Bool) (u : State) (x : Nat × WatchEntry) : State :=
  let v := u.post (some l) (.watchHit x.1 seq)
  if linked then v
  else
    match x.2.action with
    | .mark => v.modBody l fun y => { y with dl := { y.dl with mark := some { seq := seq, standing := .arriving } } }
    | .coverOn => v.addSource l .watch
    | .coverOff => v.removeSource l .watch
    | .notify => v

theorem watchHit_eq (hb : s.body? l = some b) (seq : Seq) (i : Nat) (e : WatchEntry) :
    s.watchHit l seq i e.action = State.hitOn l seq b.link.isSome s (i, e) := by
  have linked : (s.leaderOf? l).isSome = b.link.isSome := by
    rw [State.leaderOf?, hb, Option.bind_some, Option.isSome_map]
  unfold State.watchHit State.hitOn
  cases e.action <;> exact congrArg (fun x => if x = true then _ else _) linked

theorem link_coveredBy (src : CoverSource) (b : LaneBody) : (coveredBy src b).link = b.link := by
  unfold coveredBy
  dsimp only
  split <;> rfl

/-- A watch hit leaves the lane configured and its link as it was. -/
theorem link_hitOn (hb : s.body? l = some b) (seq : Seq) (x : Nat × WatchEntry) :
    ∃ c, (State.hitOn l seq b.link.isSome s x).body? l = some c ∧ c.link = b.link := by
  have posted : (s.post (some l) (.watchHit x.1 seq)).body? l = some b := hb
  unfold State.hitOn
  dsimp only
  split
  · exact ⟨b, posted, rfl⟩
  · next linked =>
    have free : b.link = none := by simpa using linked
    cases x.2.action with
    | mark => exact ⟨_, (State.body?_modBody_self _ _ _).trans (congrArg (Option.map _) posted), rfl⟩
    | coverOn =>
      exact ⟨_, (State.body?_addSource posted free _ l).trans (if_pos rfl), by rw [LaneBody.cover_eq, link_coveredBy]⟩
    | coverOff => exact ⟨_, (State.body?_removeSource posted free _ l).trans (if_pos rfl), rfl⟩
    | notify => exact ⟨b, posted, rfl⟩

/-- Watch entries are tested in order, and those that a packet matches act (R57, R58). -/
theorem watchPacket_eq (hb : s.body? l = some b) (seq : Seq) (n : Nat) (es : List WatchEntry) :
    s.watchPacket l seq ty payload n es =
      (((es.mapIdx fun i e => (i + n, e)).filter fun x => decide (x.2.type = ty ∧ payload.take x.2.bytes.length = x.2.bytes)).foldl
        (State.hitOn l seq b.link.isSome) s) := by
  induction es generalizing s b n with
  | nil => rfl
  | cons e es ih =>
    have shift : (fun i (e : WatchEntry) => (i + 1 + n, e)) = fun i e => (i + (n + 1), e) := by
      funext i e
      rw [Nat.add_right_comm, Nat.add_assoc]
    have hits : e.hits ty payload = decide (e.type = ty ∧ payload.take e.bytes.length = e.bytes) := by
      simp only [WatchEntry.hits, beq_eq_decide, Bool.decide_and]
    rw [State.watchPacket, List.mapIdx_cons, shift, List.filter_cons, hits]
    dsimp only
    split
    · obtain ⟨c, hc, link⟩ := link_hitOn hb seq (n, e)
      rw [watchHit_eq hb, ih hc, link, List.foldl_cons, Nat.zero_add]
    · exact ih hb (n + 1)

/-! ### Routing (R54, R55) -/

/-- The class of a packet: that of the first route entry that matches, or the default (R54). -/
def Intake.routeOf (i : Intake) (ty : PacketType) : PacketClass :=
  match i.routes.find? fun e => decide (e.low.toNat ≤ ty.toNat ∧ ty.toNat ≤ e.high.toNat) with
  | some e => e.cls
  | none => i.defaultClass

theorem classOf_eq_routeOf (i : Intake) (ty : PacketType) : i.classOf ty = i.routeOf ty := by
  unfold Intake.classOf Intake.routeOf
  simp only [Bool.decide_and]
  cases i.routes.find? fun e => decide (e.low.toNat ≤ ty.toNat) && decide (ty.toNat ≤ e.high.toNat) <;> rfl

/-- The frame with an accepted packet handled by its class (R55, R70). -/
def InArrival.accepting (f : InArrival) (cls : PacketClass) (ty : PacketType) (payload : List Byte) : InArrival :=
  { f with
    accepted := f.accepted + 1
    own := f.own ++ match cls with
      | .live | .drop => []
      | .delay => [{ carry := false, type := ty, payload := payload }]
      | .carry => [{ carry := true, type := ty, payload := payload }]
    carryCopy := f.carryCopy ++ if cls = .carry then [{ source := .carry, type := ty, payload := payload }] else [] }

/-- A state in which one lane has other counters and another body. -/
def State.withLane (s : State) (l : Lane) (x : LaneCounters) (y : LaneBody) : State :=
  { s with lanes := s.lanes.set l { counters := x, body := some y } }

/-- Counters with one more ancillary packet dropped (R80). -/
def LaneCounters.dropOne (x : LaneCounters) : LaneCounters := { x with ancDropped := satAdd 65535 x.ancDropped 1 }

theorem State.body?_withLane_self (s : State) (l : Lane) (x : LaneCounters) (y : LaneBody) :
    (s.withLane l x y).body? l = some y := by
  rw [State.body?, State.withLane, PerLane.get_set_self]

theorem State.setBody_eq (s : State) (l : Lane) (c : LaneBody) :
    s.setBody l (some c) = s.withLane l (s.lanes.get l).counters c := rfl

theorem State.count_ancDropped (hb : s.body? l = some b) :
    s.count l .ancDropped 1 = s.withLane l (s.lanes.get l).counters.dropOne b := by
  unfold State.withLane
  rw [← hb]
  rfl

theorem LaneCounters.lose_nil (x : LaneCounters) : x.lose [] = x := by simp [LaneCounters.lose]

/-- A LIVE packet joins the departure packet list or is dropped (R55, R80). -/
theorem routeLive_eq (s : State) (l : Lane) (b : LaneBody) (a : InArrival) (ty : PacketType) (payload : List Byte) :
    let live : List Packet := [{ source := .live, type := ty, payload := payload }]
    (s.setBody l (some { b with intake.arrival := some a, dl.departing := (joinTail b.dl.departing live).1 })).dropPackets l true
        (joinTail b.dl.departing live).2 =
      s.withLane l (if b.dl.departing.length < 32 then (s.lanes.get l).counters else (s.lanes.get l).counters.dropOne)
        { b with
          intake.arrival := some a
          dl.departing := b.dl.departing ++ if b.dl.departing.length < 32 then live else [] } := by
  dsimp only [joinTail]
  rw [State.dropPackets_spec]
  by_cases room : b.dl.departing.length < 32
  · have all : 1 ≤ 32 - b.dl.departing.length := by omega
    rw [if_pos room, if_pos room, List.take_of_length_le all, List.drop_of_length_le all, LaneCounters.lose_nil]
    simp [State.setBody, State.withLane, lostPosts, State.postAll]
  · have full : 32 - b.dl.departing.length = 0 := by omega
    rw [if_neg room, if_neg room, full]
    simp [State.setBody, State.withLane, lostPosts, State.postAll, LaneCounters.lose, LaneCounters.dropOne]

theorem routePacket_eq (s : State) (l : Lane) (b : LaneBody) (f : InArrival) (ty : PacketType) (payload : List Byte) :
    let cls := b.intake.routeOf ty
    let k := (s.lanes.get l).counters
    let room := b.dl.departing.length < 32
    s.routePacket l b f ty payload =
      s.withLane l (if cls = .live ∧ ¬room then k.dropOne else k)
        { b with
          intake.arrival := some (f.accepting cls ty payload)
          dl.departing := b.dl.departing ++
            if cls = .live ∧ room then [{ source := .live, type := ty, payload := payload }] else [] } := by
  unfold State.routePacket
  rw [classOf_eq_routeOf]
  unfold InArrival.accepting
  dsimp only
  cases b.intake.routeOf ty with
  | live =>
    dsimp only
    rw [routeLive_eq]
    simp only [true_and, reduceCtorEq, if_false, List.append_nil, ite_not]
  | delay => simp [State.setBody_eq, carryOwn]
  | carry => simp [State.setBody_eq, carryOwn]
  | drop => simp [State.setBody_eq]

theorem exec_packetArrival (ok : payload.length ≤ 255) : exec (.packetArrival l ty payload) s =
    match s.body? l with
    | none => .next s
    | some b =>
      match b.intake.arrival with
      | none => .next s
      | some f =>
        if 32 ≤ f.accepted then .next (s.count l .ancDropped 1)
        else .next ((s.routePacket l b f ty payload).watchPacket l f.seq ty payload 0 b.intake.watch) := by
  have fits : payloadOk payload = true := decide_eq_true ok
  show execPacketArrival l ty payload s = _
  unfold execPacketArrival
  rw [fits]
  rfl

end

end Sys2Proof.Machine

section
open Sys2Proof Sys2Proof.Machine

/-- Settles O50, from the routing of the packet and then the watch entries in order. -/
theorem packetsAreRoutedAndWatched : Obligations.PacketsAreRoutedAndWatched := by
  refine fun s l ty payload ok => ⟨fun waits => ?_, fun b f hb arrives => ?_⟩
  · rw [exec_packetArrival ok]
    cases hb : s.body? l with
    | none => rfl
    | some b =>
      rw [hb, Option.bind_some] at waits
      dsimp only
      rw [waits]
  · refine (exec_packetArrival ok).trans ?_
    rw [hb]
    dsimp only
    rw [arrives]
    dsimp only
    by_cases full : 32 ≤ f.accepted
    · rw [if_pos full, if_pos full, State.count_ancDropped hb]
      rfl
    · have routed := routePacket_eq s l b f ty payload
      have body := (congrArg (·.body? l) routed).trans (State.body?_withLane_self s l _ _)
      rw [if_neg full, if_neg full, watchPacket_eq body, routed]
      rfl

end

namespace Sys2Proof.Machine

section
variable {s t u : State} {l : Lane} {b c : LaneBody} {f : InArrival} {d : Delivery}

/-! ### What a completed frame stores (R49 to R51) -/

/-- The legal counts of a rate (R48). -/
def legalList (r : Fin 8) : List Nat :=
  ([[2002], [2000], [1920], [1601, 1602], [1600], [960], [800, 801], [800]] : List (List Nat)).getD r.val []

theorem dedup_cadences : ∀ r : Fin 8, ((List.range (cadencePeriod r)).map (cadence r)).dedup = legalList r := by decide

theorem legalCount_iff (r : Fin 8) (n : Nat) : legalCount r n = true ↔ n ∈ legalList r := by
  rw [← dedup_cadences, List.mem_dedup]
  simp [legalCount]

theorem rasterMatches_eq (c : VideoClass) (r : Raster) :
    (match c, r with
      | .hd720, .hd720 | .hd1080, .hd1080 => true
      | _, _ => false) = rasterMatches c r := by
  cases c <;> cases r <;> rfl

theorem deliveredCount_eq (fmt : Format) (audio : List (Option (List Sample))) : deliveredCount fmt audio =
    match (audio.take fmt.channels.toNat).filterMap id with
    | [] => none
    | x :: rest => if (∀ y ∈ rest, y.length = x.length) ∧ x.length ∈ legalList fmt.rate then some x.length else none := by
  unfold deliveredCount
  cases (audio.take fmt.channels.toNat).filterMap id with
  | nil => rfl
  | cons x rest =>
    dsimp only
    simp only [Bool.and_eq_true, List.all_eq_true, beq_iff_eq, legalCount_iff]

theorem levelOf_eq (mask : BitVec 16) (n : Nat) (audio : List (List Sample)) : levelOf mask n audio =
    ((((List.range n).filter fun i => mask.getLsbD i).flatMap fun i => audio.getD i []).map
      fun x => min 8388607 x.toInt.natAbs).foldl max 0 := by
  rw [List.foldl_map, List.foldl_flatMap]
  rfl

/-! ### The completion of a frame (R46, R47, R66) -/

/-- The counts of a completed frame whose audio or raster is not good (R49, R50). -/
def LaneCounters.completing (x : LaneCounters) (malformed mismatch : Prop) [Decidable malformed] [Decidable mismatch] :
    LaneCounters :=
  { x with
    malformed := satAdd 65535 x.malformed (if malformed then 1 else 0)
    formatMismatch := satAdd 65535 x.formatMismatch (if mismatch then 1 else 0) }

/-- The notices of a declared loss that ends (R66). -/
def regainedPosts (l : Lane) (b : LaneBody) : List (Option Lane × Detail) :=
  if b.intake.loss then [(some l, Detail.input true)] else []

theorem State.regained_eq (s : State) (l : Lane) (b : LaneBody) :
    (if b.intake.loss then s.post (some l) (.input true) else s) = s.postAll (regainedPosts l b) := by
  unfold regainedPosts
  split <;> rfl

theorem State.counts_eq (s : State) (l : Lane) (malformed mismatch : Prop) [Decidable malformed] [Decidable mismatch] :
    let t := if malformed then s.count l .malformed 1 else s
    (if mismatch then t.count l .formatMismatch 1 else t) =
      { s with lanes := s.lanes.set l ⟨(s.lanes.get l).counters.completing malformed mismatch, (s.lanes.get l).body⟩ } := by
  have idle : s = { s with lanes := s.lanes.set l (s.lanes.get l) } := by rw [PerLane.set_get]
  unfold LaneCounters.completing
  by_cases bad : malformed <;> by_cases other : mismatch
  · simp [bad, other, State.count, LaneCounters.add]
  · simp [bad, other, State.count, LaneCounters.add]
  · simp [bad, other, State.count, LaneCounters.add]
  · simp only [bad, other, if_false, satAdd_zero]
    exact idle

theorem completeFrame_of_discard (discard : f.discard = true) (truncated : Bool) :
    let good := rasterMatches b.fmt.vclass f.raster && d.whole && !truncated
    let lost := f.carryCopy.drop (32 - b.dl.carried.length)
    s.completeFrame l b f d truncated =
      { s with
        lanes := s.lanes.set l { body := some (b.completed f d good), counters := (s.lanes.get l).counters.lose lost }
        store := (s.store.writePages (completionWrites b.fmt.vclass f d good)).giveBack l f.pages
        link := (s.postAll (regainedPosts l b ++ lostPosts l false lost)).link } := by
  unfold State.completeFrame LaneBody.completed
  dsimp only
  rw [State.regained_eq, State.eq_postAll_link, if_pos discard, if_pos discard, State.giveUp_eq, State.postAll_append]
  refine congrArg (fun x => ({ s with lanes := _, store := _, link := x } : State)) (State.postAll_link_congr ?_ _)
  rfl

theorem completeFrame_of_kept (kept : f.discard = false) (truncated : Bool) :
    let good := rasterMatches b.fmt.vclass f.raster && d.whole && !truncated
    s.completeFrame l b f d truncated =
      { s with
        lanes := s.lanes.set l
          { body := some (b.completed f d good)
            counters := (s.lanes.get l).counters.completing
              (deliveredCount b.fmt d.audio = none) (b.fmt.vclass ≠ .audioOnly ∧ good = false) }
        store := s.store.writePages (completionWrites b.fmt.vclass f d good)
        link := (s.postAll (regainedPosts l b)).link } := by
  have malformed (good : Bool) : (b.recordOf f d good).audioState = .malformed ↔ deliveredCount b.fmt d.audio = none := by
    unfold LaneBody.recordOf
    cases deliveredCount b.fmt d.audio <;> simp
  unfold State.completeFrame LaneBody.completed
  dsimp only
  rw [State.regained_eq, State.eq_postAll_link]
  simp only [kept, Bool.false_eq_true, if_false]
  rw [State.counts_eq]
  simp only [malformed, Bool.not_eq_true', State.setBody, PerLane.set_set, PerLane.get_set_self]
  rfl

theorem storedAudio_eq (fmt : Format) (audio : List (Option (List Sample))) (count : Option Nat) :
    (count.map (storedAudio fmt audio)).getD [] =
      match count with
      | none => []
      | some m => (List.range fmt.channels.toNat).map fun i => ((audio[i]?).join).getD (List.replicate m 0) := by
  cases count <;> rfl

theorem exec_arrivalCompletion (ok : d.ok = true) : exec (.arrivalCompletion l d) s =
    match s.body? l with
    | none => .next s
    | some b =>
      match b.intake.arrival with
      | none => .next s
      | some f => .next (s.completeFrame l b f d false) := by
  show execArrivalCompletion l d s = _
  unfold execArrivalCompletion
  rw [ok]
  rfl

end

end Sys2Proof.Machine

section
open Sys2Proof Sys2Proof.Machine

/-- Settles O51, by whether the frame is marked for discard. -/
theorem completedFramesJoinTheLine : Obligations.CompletedFramesJoinTheLine := by
  refine fun s l d ok => ⟨fun waits => ?_, fun b f hb arrives => ⟨?_, fun truncated => ?_⟩⟩
  · rw [exec_arrivalCompletion ok]
    cases hb : s.body? l with
    | none => rfl
    | some b =>
      rw [hb, Option.bind_some] at waits
      dsimp only
      rw [waits]
  · rw [exec_arrivalCompletion ok, hb]
    dsimp only
    rw [arrives]
  · intro n legal count audio peak rasterFits good video last writes written room lost record mark k t
    have counted : count = deliveredCount b.fmt d.audio := (deliveredCount_eq b.fmt d.audio).symm
    have fits : rasterFits = rasterMatches b.fmt.vclass f.raster := rasterMatches_eq _ _
    have goods : good = (rasterMatches b.fmt.vclass f.raster && d.whole && !truncated) := by rw [← fits]
    have stored : audio = ((deliveredCount b.fmt d.audio).map (storedAudio b.fmt d.audio)).getD [] :=
      (storedAudio_eq b.fmt d.audio count).symm.trans (congrArg (fun c => (Option.map _ c).getD []) counted)
    have level : peak = levelOf b.govSet.mask b.fmt.channels.toNat audio := (levelOf_eq _ _ _).symm
    have recorded : record = b.recordOf f d good := by
      unfold record LaneBody.recordOf
      rw [level, stored, counted]
    have written_eq : written = s.store.writePages (completionWrites b.fmt.vclass f d good) := rfl
    have body : t.body? l = some (b.completed f d good) := by
      rw [State.body?_completeFrame, if_pos rfl, goods]
    clear_value record good written
    rcases discard : f.discard with _ | _
    · have whole : t = _ := completeFrame_of_kept (s := s) (l := l) (b := b) (d := d) discard truncated
      rw [← goods, ← counted, ← written_eq] at whole
      have none_lost : lost = [] := if_neg (by simp [discard])
      refine ⟨body.trans ?_, ?_, fun j other => ?_, ?_, ?_, ?_⟩
      · unfold LaneBody.completed
        rw [discard, recorded]
        rfl
      · rw [whole, PerLane.get_set_self]
        rfl
      · rw [whole]
        exact PerLane.get_set_ne _ _ other
      · rw [whole]
        rfl
      · rw [whole]
      · rw [whole, none_lost]
        exact congrArg (fun xs => (s.postAll xs).link) (List.append_nil _).symm
    · have whole : t = _ := completeFrame_of_discard (s := s) (l := l) (b := b) (d := d) discard truncated
      rw [← goods, ← written_eq] at whole
      have all_lost : lost = f.carryCopy.drop room := if_pos discard
      refine ⟨body.trans ?_, ?_, fun j other => ?_, ?_, ?_, ?_⟩
      · unfold LaneBody.completed
        rw [discard]
        rfl
      · rw [whole, PerLane.get_set_self, all_lost]
        rfl
      · rw [whole]
        exact PerLane.get_set_ne _ _ other
      · rw [whole]
        rfl
      · rw [whole]
      · rw [whole, all_lost]
        rfl

end

namespace Sys2Proof.Machine

section
variable {s t u : State} {l : Lane} {b c : LaneBody} {f : InArrival}

/-! ### Frame Intake's counts at a tick (R62) -/

theorem declares_eq (i : Intake) : i.declares = decide (i.ticksSince = 2 ∧ i.loss = false) := by
  unfold Intake.declares
  cases i.loss <;> simp [beq_eq_decide]

theorem due_eq (i : Intake) : i.due = if i.ticksSince = 2 ∧ i.loss = false then 3 else if i.loss then 1 else 0 := by
  unfold Intake.due
  rw [declares_eq]
  simp only [decide_eq_true_eq]

/-- The notice of a tick that declares the input lost (R62). -/
def declaredPosts (l : Lane) (i : Intake) : List (Option Lane × Detail) :=
  if i.ticksSince = 2 ∧ i.loss = false then [(some l, Detail.input false)] else []

theorem State.declared_eq (s : State) (l : Lane) (i : Intake) :
    (if i.declares then s.post (some l) (.input false) else s) = s.postAll (declaredPosts l i) := by
  unfold declaredPosts
  rw [declares_eq]
  simp only [decide_eq_true_eq]
  split <;> rfl

theorem intakeTick_eq (hb : s.body? l = some b) : s.intakeTick l =
    let noted := s.postAll (declaredPosts l b.intake)
    if b.intake.due = 0 then noted.setBody l (some (b.ticked b.intake.owed))
    else
      match b.intake.arrival with
      | none => (noted.setBody l (some (b.ticked 0))).makeFills l (b.intake.due + b.intake.owed)
      | some f =>
        if f.ticksSeen = 0 then noted.setBody l (some (b.ticked (min 3 (b.intake.owed + b.intake.due))))
        else (noted.abandon l (b.ticked 0) f).makeFills l (b.intake.due + b.intake.owed) := by
  unfold State.intakeTick
  rw [hb]
  dsimp only
  rw [State.declared_eq]
  unfold LaneBody.ticked LaneBody.withCounts LaneBody.withFrames
  cases b.intake.arrival <;> rfl

theorem declaredPosts_of_due_zero {i : Intake} (none_due : i.due = 0) : declaredPosts l i = [] := by
  rw [due_eq] at none_due
  unfold declaredPosts
  split
  · next declares => rw [if_pos declares] at none_due; cases none_due
  · rfl

/-! ### An abandoned frame (R65) -/

theorem State.abandon_eq (s : State) (l : Lane) (b : LaneBody) (f : InArrival) :
    let lost := f.carryCopy.drop (32 - b.dl.carried.length)
    s.abandon l b f = { s with
      lanes := s.lanes.set l
        { body := some ((b.withLists (joinTail b.dl.carried f.carryCopy).1 b.dl.departing).leave f)
          counters := (s.lanes.get l).counters.lose lost }
      store := s.store.giveBack l f.pages
      link := (s.postAll (lostPosts l false lost)).link } := by
  unfold State.abandon
  exact State.giveUp_eq _ _ _ _ _ _

/-! ### A fill frame (R63) -/

theorem State.makeFill_eq (hc : (s.fullLineCheck l).body? l = some c) : s.makeFill l =
    ((s.fullLineCheck l).setBody l (some { c with
      intake.discardThrough := (discardTest c c.intake.nextSeq).2
      dl.records := if (discardTest c c.intake.nextSeq).1 then c.dl.records else c.dl.records ++ [c.fillRecord]
      dl.mark := markStarts c.dl.mark c.intake.nextSeq
        (if (discardTest c c.intake.nextSeq).1 then .gone .removed else .held) })).takeSeq l := by
  unfold State.makeFill
  dsimp only
  rw [hc]

theorem exec_inputLossDeclared (hb : s.body? l = some b) (first : Bool) : exec (.inputLossDeclared l first) s =
    .next (if b.intake.ticksSince = 2 ∧ b.intake.loss = false then s.laneTick l first else s) := by
  show Host.Outcome.next (if ((s.body? l).map (·.intake.declares)).getD false then s.laneTick l first else s) = _
  rw [hb, Option.map_some, Option.getD_some, declares_eq]
  simp only [decide_eq_true_eq]

end

end Sys2Proof.Machine

section
open Sys2Proof Sys2Proof.Machine

/-- Settles O52, by what falls due at the tick and the frame in arrival. -/
theorem lostInputIsFilled : Obligations.LostInputIsFilled := by
  intro s l b hb i declares due posts ticked seen noted
  have tick := intakeTick_eq hb
  have owing : due = b.intake.due := (due_eq b.intake).symm
  have counted (owed : Nat) : b.ticked owed = { b with intake := ticked (i.arrival.map seen) owed } := by
    unfold LaneBody.ticked
    rw [declares_eq]
    rfl
  refine ⟨fun first => ⟨_, rfl, exec_inputLossDeclared hb first⟩, fun idle => ?_, fun fills => ⟨fun waits => ?_, fun f arrives =>
    ⟨fun fresh => ?_, fun spans => ?_⟩⟩, ⟨rfl, fun _ => rfl⟩, fun c hc self => ?_⟩
  · rw [owing] at idle
    rw [tick, declaredPosts_of_due_zero idle]
    exact (if_pos idle).trans (congrArg (fun x => s.setBody l (some x)) (counted b.intake.owed))
  · rw [owing] at fills
    have waits' : b.intake.arrival = none := waits
    have settled := counted 0
    rw [waits] at settled
    rw [tick]
    refine (if_neg fills).trans ?_
    rw [waits', owing]
    exact congrArg (fun x => ((noted.setBody l (some x)).makeFills l _)) settled
  · rw [owing] at fills
    have arrives' : b.intake.arrival = some f := arrives
    have settled := counted (min 3 (b.intake.owed + b.intake.due))
    rw [arrives] at settled
    rw [tick]
    refine (if_neg fills).trans ?_
    rw [arrives', owing]
    exact (if_pos fresh).trans (congrArg (fun x => noted.setBody l (some x)) settled)
  · rw [owing] at fills
    have arrives' : b.intake.arrival = some f := arrives
    refine ⟨noted.abandon l (b.ticked 0) f, ?_, ?_, ?_, fun k other => ?_, ?_, ?_, ?_⟩
    · rw [tick]
      refine (if_neg fills).trans ?_
      rw [arrives', owing]
      exact if_neg spans
    all_goals rw [State.abandon_eq]
    · rw [State.body?, PerLane.get_set_self, counted]
      rfl
    · rw [PerLane.get_set_self, State.postAll_lanes]
      rfl
    · exact (PerLane.get_set_ne _ _ other).trans (by rw [State.postAll_lanes])
    · rw [State.postAll_store]
    · unfold noted
      rw [State.eq_postAll_link]
    · rw [State.postAll_append]
      rfl
  · intro u q within fill moved t
    have checked := body_of_fullLineCheck hb hc
    have followers := State.followersOf_fullLineCheck s l l
    obtain ⟨bodies, counters, kept⟩ := State.takeSeq_setBody (s := u) (b := c) (c := { c with
      intake.discardThrough := (discardTest c c.intake.nextSeq).2
      dl.records := if (discardTest c c.intake.nextSeq).1 then c.dl.records else c.dl.records ++ [c.fillRecord]
      dl.mark := markStarts c.dl.mark c.intake.nextSeq
        (if (discardTest c c.intake.nextSeq).1 then .gone .removed else .held) }) hc rfl
      (by rwa [State.leaderOf?_fullLineCheck])
    have made : t = _ := State.makeFill_eq hc
    rw [← made] at bodies counters kept
    refine ⟨(bodies l).trans ((if_pos rfl).trans ?_), fun k other => (bodies k).trans ((if_neg other).trans ?_), counters, kept⟩
    · unfold LaneBody.fillRecord
      rw [discardTest_eq, CoverSet.isEmpty_not]
      subst checked
      rfl
    · rw [← followers]
      rfl

end

namespace Sys2Proof.Machine

section
variable {s t u : State} {l f leader : Lane} {b c : LaneBody} {k : FollowerLink} {a : Action}

/-! ### A leader's action on its followers (R124) -/

theorem adjustPending_eq (hb : s.body? f = some b) (link : b.link = some k) (l : Lane) (a : Action) : s.adjustPending l f a =
    if -8 ≤ k.pending + a.owed ∧ k.pending + a.owed ≤ 8 then
      s.setBody f (some { b with link := some { k with pending := k.pending + a.owed } })
    else (s.count f .linkSlip 1).post (some f) (.linkSlip l (a == .skip)) := by
  have pending : b.pendingCount = k.pending := by rw [LaneBody.pendingCount, link]; rfl
  unfold State.adjustPending
  rw [hb]
  dsimp only
  rw [pending]
  split
  · rw [State.modBody, hb, Option.map_some, link]
    rfl
  · rfl

theorem Action.owed_eq (active : a ≠ .nothing) : a.owed = if a = .insert then 1 else -1 := by
  cases a with
  | nothing => exact absurd rfl active
  | insert => rfl
  | skip => rfl

/-! ### A follower's tick (R125, R127) -/

/-- A follower whose body is recorded and that looks for the end of its drain (R25, R127, R128). -/
theorem endDrain_setBody (other : leader ≠ f) (u : State) (c : LaneBody) : (u.setBody f (some c)).endDrain f leader =
    if (c.mode = .drain ∧ u.mode? leader = some .pass) ∧ c.pendingCount = 0 then
      (u.post (some f) (.laneState (some .pass) .leader)).setBody f (some { c with mode := .pass, gov := c.gov.entersPass })
    else u.setBody f (some c) := by
  unfold State.endDrain
  rw [State.body?_setBody_self, State.mode?_congr (State.body?_setBody_ne u (some c) other)]
  dsimp only
  simp only [and_assoc]
  split
  · unfold State.followMode State.putMode
    rw [if_pos rfl, State.modBody_setBody]
    change ((u.post (some f) (.laneState (some .pass) .leader)).setBody f _).modBody f _ = _
    rw [State.modBody_setBody]
  · rfl

/-- A follower that drops the skips it cannot pay (R127). -/
theorem dropOwed_setBody (u : State) (c : LaneBody) (b : LaneBody) : (u.setBody f (some c)).dropOwed f leader b =
    ((u.count f .linkSlip b.pendingCount.natAbs).post (some f) (.linkSlip leader true)).setBody f
      (some { c with link := c.link.map fun k => { k with pending := 0 } }) := by
  unfold State.dropOwed
  rw [State.modBody_setBody]
  simp [State.setBody, State.count, State.post, State.postOn]

theorem owedAction_eq (link : b.link = some k) : b.owedAction =
    if 0 < k.pending then .insert else if k.pending < 0 ∧ 2 ≤ b.h then .skip else .nothing := by
  unfold LaneBody.owedAction LaneBody.pendingCount
  rw [link]
  rfl

/-- A lane's body with its depth recorded at a tick (R90). -/
def LaneBody.atDepth (b : LaneBody) : LaneBody := { b with play := { b.play with depth := b.h } }

theorem settleAction_eq (s : State) (f : Lane) (b : LaneBody) : s.settleAction f b =
    match b.link with
    | some k => s.followerAction f b.atDepth k
    | none => s.independentAction f b.atDepth := rfl

theorem settleAction_of_link (link : b.link = some k) : s.settleAction f b = s.followerAction f b.atDepth k := by
  rw [settleAction_eq, link]

theorem settleAction_of_free (free : b.link = none) : s.settleAction l b = s.independentAction l b.atDepth := by
  rw [settleAction_eq, free]

/-- A follower's body at its tick, its state, its governor's account and its pending count settled (R125). -/
def LaneBody.paying (b : LaneBody) (k : FollowerLink) (m : Mode) (gov : GovState) (pending : Int) : LaneBody :=
  { b with mode := m, gov := gov, link := some { k with pending := pending } }

/-- A follower records its body and enters PASS where its drain has ended and it owes nothing (R25, R127). -/
def State.toPass (u : State) (f : Lane) (b : LaneBody) (k : FollowerLink) (ended : Prop) [Decidable ended]
    (gov : GovState) (pending : Int) : State :=
  if ended ∧ pending = 0 then
    (u.post (some f) (.laneState (some .pass) .leader)).setBody f (some (b.paying k .pass gov.entersPass pending))
  else u.setBody f (some (b.paying k b.mode gov pending))

theorem endDrain_paying (other : k.leader ≠ f) (modes : u.mode? k.leader = s.mode? k.leader) (b : LaneBody) (gov : GovState)
    (pending : Int) : (u.setBody f (some (b.paying k b.mode gov pending))).endDrain f k.leader =
      u.toPass f b k (b.mode = .drain ∧ s.mode? k.leader = some .pass) gov pending := by
  rw [endDrain_setBody other, modes]
  rfl

theorem followerAction_eq (link : b.link = some k) (other : k.leader ≠ f) :
    let ended := b.mode = .drain ∧ s.mode? k.leader = some .pass
    let noted : GovState := { b.gov with dev := b.deviation, ticked := true }
    s.followerAction f b k =
      if ended ∧ b.play.depth ≤ 1 ∧ k.pending < 0 then
        (((s.count f .linkSlip k.pending.natAbs).post (some f) (.linkSlip k.leader true)).toPass f b k ended noted 0, .nothing)
      else (s.toPass f b k ended (noted.acts b.owedAction) (k.pending - b.owedAction.owed), b.owedAction) := by
  have pending : b.pendingCount = k.pending := by
    rw [LaneBody.pendingCount, link]
    rfl
  unfold State.followerAction
  dsimp only
  simp only [and_assoc]
  split
  · rw [dropOwed_setBody, pending, link]
    refine congrArg (·, Action.nothing) (endDrain_paying (s := s) other ?_ b _ 0)
    rw [State.mode?_congr]
    rw [State.body?_post, State.body?_count]
  · exact congrArg (·, b.owedAction) (endDrain_paying (s := s) other rfl b _ _)

/-- The deviation of a lane whose depth is recorded at a tick (R111). -/
theorem deviation_atDepth (b : LaneBody) : b.atDepth.deviation =
    match (match b.mode with
      | .pass => none
      | .drain => some 1
      | _ => b.timing.target.map (·.frames) : Option Nat) with
    | none => 0
    | some t => (t : Int) - b.h := by
  unfold LaneBody.deviation LaneBody.effectiveTarget LaneBody.atDepth
  cases b.mode <;> rfl

end

end Sys2Proof.Machine

section
open Sys2Proof Sys2Proof.Machine

/-- Settles O56, by the sign of what the follower owes. -/
theorem followersPayTheirLeadersActions : Obligations.FollowersPayTheirLeadersActions := by
  refine ⟨fun s l f a b k hb link active => ?_, fun s l a => rfl, fun s f b k hb link other => ?_⟩
  · rw [adjustPending_eq hb link, Action.owed_eq active]
    rfl
  · intro ended target dev noted at' cleared toPass
    have settled := (settleAction_of_link (s := s) (f := f) link).trans (followerAction_eq (b := b.atDepth) link other)
    have act := owedAction_eq (b := b.atDepth) link
    rw [deviation_atDepth] at settled
    by_cases drops : ended ∧ b.h ≤ 1 ∧ k.pending < 0
    · refine (settled.trans (if_pos drops)).trans ?_
      rw [if_pos drops]
      rfl
    · refine (settled.trans (if_neg drops)).trans ?_
      rw [if_neg drops]
      by_cases owes : 0 < k.pending
      · rw [if_pos owes] at act ⊢
        rw [act]
        rfl
      · rw [if_neg owes] at act ⊢
        by_cases pays : k.pending < 0 ∧ 2 ≤ b.h
        · rw [if_pos pays, act.trans (if_pos pays)]
          rfl
        · rw [if_neg pays, act.trans (if_neg pays)]
          exact congrArg (fun n => (s.toPass f b.atDepth k ended noted n, Action.nothing)) (sub_zero _)

end

namespace Sys2Proof.Machine

section
variable {s t u : State} {l : Lane} {b c : LaneBody}

/-! ### The decision (R115 to R119) -/

/-- The value of since that a tick decides by (R115). -/
def LaneBody.sinceAt (b : LaneBody) (g : GovState) : Nat := if b.gov.ticked then satAdd 65535 g.since 1 else g.since

theorem fillNames_eq (b : LaneBody) :
    b.fillNames = (List.range b.fmt.channels.toNat).any fun i => b.play.fill.mask.getLsbD i := by
  rw [LaneBody.fillNames, maskedChannels, Bool.eq_iff_iff]
  simp

theorem foreseenLevel_eq (b : LaneBody) (r : Record) : b.foreseenLevel r =
    if r.covered && (List.range b.fmt.channels.toNat).any fun i => b.play.fill.mask.getLsbD i then
      (match b.play.fill.kind with | .silence => 0 | .tone => b.play.fill.amplitude)
    else r.level := by
  rw [← fillNames_eq]
  rfl

theorem candidateQuiet_eq (b : LaneBody) : b.candidateQuiet =
    (b.dl.records[1]?).any fun r => decide (b.foreseenLevel r ≤ b.govSet.threshold) := by
  unfold LaneBody.candidateQuiet
  cases b.dl.records[1]? <;> rfl

theorem forced_iff (x : GovSettings) (since : Nat) : x.forced since = true ↔ x.f ≠ 0 ∧ x.f ≤ since := by
  simp [GovSettings.forced]

theorem actionDue_iff (b : LaneBody) (since : Nat) : b.actionDue since = true ↔
    b.govSet.s ≤ since ∧ (b.govSet.q ≤ b.play.quietRun ∨ b.govSet.f ≠ 0 ∧ b.govSet.f ≤ since) := by
  simp [LaneBody.actionDue, forced_iff]

/-- The action that a tick settles (R116 to R119). -/
def LaneBody.actAt (b : LaneBody) (g : GovState) (dev : Int) : Action :=
  if ¬(b.gov.ticked = true ∧ b.actionDue (b.sinceAt g) = true) then .nothing else b.dueAction dev (b.sinceAt g)

/-- The governor's account after a tick that reaches the decision (R115, R117, R118). -/
def GovState.after (g : GovState) (since : Nat) : Action → GovState
  | .nothing => { g with since := since }
  | .insert => { g with since := 0, inserts := satAdd 65535 g.inserts 1 }
  | .skip => { g with since := 0, skips := satAdd 65535 g.skips 1 }

theorem reachDecision_eq (b : LaneBody) (g : GovState) (m : Mode) (dev : Int) : b.reachDecision g m dev =
    { gov := g.after (b.sinceAt g) (b.actAt g dev), mode := m, action := b.actAt g dev } := by
  have account (since : Nat) (a : Action) :
      ({ g with since := if a = .nothing then since else 0 } : GovState).acts a = g.after since a := by
    cases a <;> rfl
  unfold LaneBody.reachDecision LaneBody.actAt LaneBody.sinceAt
  cases b.gov.ticked with
  | false => rfl
  | true =>
    simp only [Bool.not_true, Bool.false_eq_true, if_false, if_true, account, true_and, ite_not]

/-! ### A tick of a lane that is no follower (R10, R13, R112) -/

/-- The lane's state after the governor's step, with its body and state set (R90). -/
def State.decide (s : State) (l : Lane) (b : LaneBody) (gov : GovState) (m : Mode) : State :=
  let u := s.setBody l (some { b with gov := gov })
  if m = b.mode then u else u.changeMode l m .governor

theorem handAction_nothing (s : State) (l : Lane) : s.handAction l .nothing = s := if_pos rfl

/-- The governor's record of a tick (R111). -/
def LaneBody.notedGov (b : LaneBody) : GovState := { b.gov with dev := b.deviation, ticked := true }

/-- What a tick that reaches the decision settles, in a state (R90, R115). -/
def LaneBody.decision (b : LaneBody) (m : Mode) : Decision :=
  { gov := b.notedGov.after (b.sinceAt b.notedGov) (b.actAt b.notedGov b.deviation), mode := m
    action := b.actAt b.notedGov b.deviation }

/-- A settled decision on the lane and its followers (R90, R124). -/
def State.settled (s : State) (l : Lane) (b : LaneBody) (d : Decision) : State × Action :=
  ((s.decide l b d.gov d.mode).handAction l d.action, d.action)

theorem reachDecision_noted (b : LaneBody) (m : Mode) : b.reachDecision b.notedGov m b.deviation = b.decision m :=
  reachDecision_eq b b.notedGov m b.deviation

theorem governorStep_of_drain (drain : b.mode = .drain) : b.governorStep = b.decision .drain := by
  unfold LaneBody.governorStep
  rw [drain]
  exact reachDecision_noted b .drain

theorem governorStep_of_other (other : b.mode ≠ .drain) : b.governorStep =
    if b.gov.engaged then
      if b.deviation = 0 then { gov := { b.notedGov with engaged := false }, mode := .onTarget, action := .nothing }
      else b.decision (modeBySign b.deviation)
    else if b.govSet.e ≤ b.deviation.natAbs then
      { gov := { b.notedGov with engaged := true, since := 0 }, mode := modeBySign b.deviation, action := .nothing }
    else { gov := b.notedGov, mode := .onTarget, action := .nothing } := by
  rw [← reachDecision_noted]
  unfold LaneBody.governorStep
  split
  · next drain => exact absurd drain other
  · rfl

theorem independentAction_of_pass (pass : b.mode = .pass) :
    s.independentAction l b = (s.setBody l (some { b with gov := b.notedGov }), .nothing) := if_pos pass

theorem independentAction_of_drained (drain : b.mode = .drain) (low : b.play.depth ≤ 1) : s.independentAction l b =
    ((s.setBody l (some { b with gov := { b.notedGov.entersPass with dev := 0 } })).changeMode l .pass .governor,
      .nothing) :=
  (if_neg (by rw [drain]; decide)).trans (if_pos ⟨drain, low⟩)

theorem independentAction_of_delaying (delays : b.mode ≠ .pass) (holds : ¬(b.mode = .drain ∧ b.play.depth ≤ 1)) :
    s.independentAction l b = s.settled l b b.governorStep :=
  (if_neg delays).trans (if_neg holds)

theorem settled_idle (s : State) (l : Lane) (b : LaneBody) (gov : GovState) (m : Mode) :
    s.settled l b { gov := gov, mode := m, action := .nothing } = (s.decide l b gov m, .nothing) := rfl

/-! ### GOVERNOR_FORCE (R116) -/

theorem forceDue_eq (b : LaneBody) : b.forceDue =
    let since := satAdd 65535 b.gov.since 1
    let dev : Int := ((b.timing.target.map (·.frames)).getD b.h : Int) - b.h
    decide (b.link = none ∧ b.gov.ticked = true ∧ b.mode ≠ .pass ∧ b.govSet.s ≤ since ∧ b.govSet.f ≠ 0 ∧ b.govSet.f ≤ since) &&
      (if b.mode = .drain then decide (2 ≤ b.h) else b.gov.engaged && decide (dev ≠ 0)) := by
  have apart (delays : b.mode ≠ .pass) (other : b.mode ≠ .drain) : (b.atDepth.deviation != 0) =
      decide (((b.timing.target.map (·.frames)).getD b.h : Int) - b.h ≠ 0) := by
    rw [deviation_atDepth]
    cases mode : b.mode with
    | pass => exact absurd mode delays
    | drain => exact absurd mode other
    | build | onTarget | trim => cases b.timing.target <;> simp [bne, beq_eq_decide]
  have delaying : b.mode.delaying = decide (b.mode ≠ .pass) := by cases b.mode <;> rfl
  have conditions (since : Nat) : (b.link.isNone && b.gov.ticked && b.mode.delaying && decide (b.govSet.s ≤ since) &&
      b.govSet.forced since) = decide (b.link = none ∧ b.gov.ticked = true ∧ b.mode ≠ .pass ∧ b.govSet.s ≤ since ∧
        b.govSet.f ≠ 0 ∧ b.govSet.f ≤ since) := by
    rw [Bool.eq_iff_iff, delaying]
    simp [forced_iff, and_assoc]
  refine (congrArg (· && _) (conditions _)).trans ?_
  by_cases pass : b.mode = .pass
  · simp [pass]
  · by_cases drain : b.mode = .drain
    · simp only [drain, if_true]
    · simp only [drain, if_false]
      exact congrArg (fun x => _ && (b.gov.engaged && x)) (apart pass drain)

theorem exec_governorForce (s : State) (l : Lane) (first : Bool) : exec (.governorForce l first) s =
    .next (if ((if first then s.intakeTick l else s).body? l).any LaneBody.forceDue then s.laneTick l first else s) := by
  have any : (((if first then s.intakeTick l else s).body? l).map LaneBody.forceDue).getD false =
      ((if first then s.intakeTick l else s).body? l).any LaneBody.forceDue := by
    cases (if first then s.intakeTick l else s).body? l <;> rfl
  exact congrArg (fun x => Host.Outcome.next (if x = true then s.laneTick l first else s)) any

theorem GovState.after_eq (g : GovState) (since : Nat) (a : Action) : g.after since a =
    match a with
    | .nothing => { g with since := since }
    | .insert => { g with since := 0, inserts := satAdd 65535 g.inserts 1 }
    | .skip => { g with since := 0, skips := satAdd 65535 g.skips 1 } := by
  cases a <;> rfl

end

end Sys2Proof.Machine

section
open Sys2Proof Sys2Proof.Machine

/-- Settles O55, by the lane's state and then by the governor's engagement. -/
theorem governorDecidesTheAction : Obligations.GovernorDecidesTheAction := by
  refine ⟨fun s l b hb free => ?_, fun s l first => ⟨_, rfl, ?_⟩⟩
  · intro g x target dev at' noted toMode signed since forced due named foreseen quiet act account decided
    have deviation : b.atDepth.deviation = dev := deviation_atDepth b
    have recorded : b.atDepth.notedGov = noted := congrArg (fun d => ({ b.gov with dev := d, ticked := true } : GovState)) deviation
    have raised : b.atDepth.sinceAt b.atDepth.notedGov = since := rfl
    have looks : b.atDepth.candidateQuiet = quiet :=
      (candidateQuiet_eq b.atDepth).trans (congrArg (fun level => (b.dl.records[1]?).any fun r => decide (level r ≤ x.threshold))
        (funext (foreseenLevel_eq b.atDepth)))
    have acts : b.atDepth.actAt b.atDepth.notedGov b.atDepth.deviation = act := by
      unfold LaneBody.actAt LaneBody.dueAction
      rw [deviation, looks]
      simp only [actionDue_iff, forced_iff]
      rfl
    have accounts : b.atDepth.notedGov.after since act = account := by
      rw [recorded]
      exact GovState.after_eq noted since act
    have decides (m : Mode) : s.settled l b.atDepth (b.atDepth.decision m) = decided m := by
      unfold State.settled LaneBody.decision
      rw [acts, raised, accounts]
      rfl
    rw [settleAction_of_free free]
    split
    · next pass =>
      rw [independentAction_of_pass (b := b.atDepth) pass, recorded]
      rfl
    · next drain =>
      split
      · next low =>
        rw [independentAction_of_drained (b := b.atDepth) drain low]
        rfl
      · next high =>
        have delays : b.atDepth.mode ≠ .pass := fun pass => nomatch drain.symm.trans pass
        rw [independentAction_of_delaying delays (fun ended => high ended.2), governorStep_of_drain (b := b.atDepth) drain,
          decides]
    · next delays other =>
      rw [independentAction_of_delaying (b := b.atDepth) delays (fun ended => other ended.1),
        governorStep_of_other (b := b.atDepth) other, recorded, deviation]
      by_cases engaged : b.gov.engaged = true
      · refine (congrArg (s.settled l b.atDepth) (if_pos engaged)).trans (Eq.trans ?_ (if_pos engaged).symm)
        by_cases zero : dev = 0
        · exact (congrArg (s.settled l b.atDepth) (if_pos zero)).trans (if_pos zero).symm
        · exact ((congrArg (s.settled l b.atDepth) (if_neg zero)).trans (decides _)).trans (if_neg zero).symm
      · refine (congrArg (s.settled l b.atDepth) (if_neg engaged)).trans (Eq.trans ?_ (if_neg engaged).symm)
        by_cases far : x.e ≤ dev.natAbs
        · exact (congrArg (s.settled l b.atDepth) (if_pos far)).trans (if_pos far).symm
        · exact (congrArg (s.settled l b.atDepth) (if_neg far)).trans (if_neg far).symm
  · exact (exec_governorForce s l first).trans
      (congrArg (fun due => Host.Outcome.next (if Option.any due _ = true then _ else _)) (funext forceDue_eq))

end

namespace Sys2Proof.Machine

section
variable {x y lo hi : ℝ}

/-! ### The sine at the multiples of a 48th of a turn (R105)

Half angles lead from the sine of a sixth and of an eighth of a turn to that of every 48th. -/

/-- The sine of k 48ths of a turn. -/
noncomputable def sineAt (k : ℕ) : ℝ := Real.sin (2 * Real.pi * k / 48)

theorem sineAt_nonneg {k : ℕ} (half : k ≤ 24) : 0 ≤ sineAt k := by
  have := Real.pi_pos
  have bound : (k : ℝ) ≤ 24 := by exact_mod_cast half
  refine Real.sin_nonneg_of_nonneg_of_le_pi (by positivity) ?_
  nlinarith

theorem sin_sq_eq_cos (x : ℝ) : Real.sin x ^ 2 = (1 - Real.cos (2 * x)) / 2 := by
  rw [Real.sin_sq_eq_half_sub]
  ring

theorem sineAt_sq_of_low {j k : ℕ} (sum : 2 * k + j = 12) : sineAt k ^ 2 = (1 - sineAt j) / 2 := by
  have sum' : 2 * (k : ℝ) + j = 12 := by exact_mod_cast sum
  rw [sineAt, sineAt, sin_sq_eq_cos, ← Real.cos_pi_div_two_sub]
  congr 3
  linear_combination (Real.pi / 24) * sum'

theorem sineAt_sq_of_high {j k : ℕ} (sum : 2 * k = 12 + j) : sineAt k ^ 2 = (1 + sineAt j) / 2 := by
  have sum' : 2 * (k : ℝ) = 12 + j := by exact_mod_cast sum
  have turned : Real.cos (2 * (2 * Real.pi * k / 48)) = -sineAt j := by
    rw [sineAt, ← Real.cos_add_pi_div_two]
    congr 1
    linear_combination (Real.pi / 24) * sum'
  rw [sineAt, sin_sq_eq_cos, turned]
  ring

theorem between_of_sq (nonneg : 0 ≤ x) (square : x ^ 2 = y) (low : lo ^ 2 ≤ y) (high : y ≤ hi ^ 2) (pos : 0 ≤ hi) :
    lo ≤ x ∧ x ≤ hi :=
  ⟨le_of_sq_le_sq (low.trans_eq square.symm) nonneg, le_of_sq_le_sq (square.trans_le high) pos⟩

theorem sineAt_zero : sineAt 0 = 0 := by simp [sineAt]

theorem sineAt_twelve : sineAt 12 = 1 := by
  rw [sineAt, show 2 * Real.pi * (12 : ℕ) / 48 = Real.pi / 2 by push_cast; ring, Real.sin_pi_div_two]

theorem sineAt_four : sineAt 4 = 1 / 2 := by
  rw [sineAt, show 2 * Real.pi * (4 : ℕ) / 48 = Real.pi / 6 by push_cast; ring, Real.sin_pi_div_six]

theorem sineAt_six : 70710678118654752440084436210 / 10 ^ 29 ≤ sineAt 6 ∧
    sineAt 6 ≤ 70710678118654752440084436211 / 10 ^ 29 := by
  refine between_of_sq (sineAt_nonneg (by decide)) (sineAt_sq_of_low (j := 0) rfl) ?_ ?_ ?_ <;>
    norm_num [sineAt_zero]

theorem sineAt_eight : 86602540378443864676372317075 / 10 ^ 29 ≤ sineAt 8 ∧
    sineAt 8 ≤ 86602540378443864676372317076 / 10 ^ 29 := by
  refine between_of_sq (sineAt_nonneg (by decide)) (sineAt_sq_of_high (j := 4) rfl) ?_ ?_ ?_ <;>
    norm_num [sineAt_four]

theorem sineAt_two : 2588190451025207623488988 / 10 ^ 25 ≤ sineAt 2 ∧ sineAt 2 ≤ 2588190451025207623488989 / 10 ^ 25 := by
  obtain ⟨low, high⟩ := sineAt_eight
  refine between_of_sq (sineAt_nonneg (by decide)) (sineAt_sq_of_low (j := 8) rfl) ?_ ?_ ?_
  · linarith
  · linarith
  · norm_num

theorem sineAt_ten : 9659258262890682867497431 / 10 ^ 25 ≤ sineAt 10 ∧ sineAt 10 ≤ 9659258262890682867497432 / 10 ^ 25 := by
  obtain ⟨low, high⟩ := sineAt_eight
  refine between_of_sq (sineAt_nonneg (by decide)) (sineAt_sq_of_high (j := 8) rfl) ?_ ?_ ?_
  · linarith
  · linarith
  · norm_num

theorem near_of_sq {q : ℕ} (nonneg : 0 ≤ x) (square : x ^ 2 = y) (low : (((q : ℝ) - 1) / 10 ^ 20) ^ 2 ≤ y)
    (high : y ≤ (((q : ℝ) + 1) / 10 ^ 20) ^ 2) : |q / 10 ^ 20 - x| ≤ 1 / 10 ^ 20 := by
  obtain ⟨above, below⟩ := between_of_sq nonneg square low high (by positivity)
  rw [sub_div] at above
  rw [add_div] at below
  exact abs_le.mpr ⟨by linarith, by linarith⟩

theorem near_of_between {q : ℕ} (low : ((q : ℝ) - 1) / 10 ^ 20 ≤ x) (high : x ≤ ((q : ℝ) + 1) / 10 ^ 20) :
    |q / 10 ^ 20 - x| ≤ 1 / 10 ^ 20 := by
  rw [sub_div] at low
  rw [add_div] at high
  exact abs_le.mpr ⟨by linarith, by linarith⟩

/-- The table's whole numbers are the sines of its angles, to within 10^−20. -/
theorem quarterSine_near {k : ℕ} (quarter : k ≤ 12) : |(quarterSine.getD k 0 : ℝ) / 10 ^ 20 - sineAt k| ≤ 1 / 10 ^ 20 := by
  have nonneg : 0 ≤ sineAt k := sineAt_nonneg (by omega)
  obtain ⟨low2, high2⟩ := sineAt_two
  obtain ⟨low6, high6⟩ := sineAt_six
  obtain ⟨low8, high8⟩ := sineAt_eight
  obtain ⟨low10, high10⟩ := sineAt_ten
  interval_cases k
  · norm_num [quarterSine, sineAt_zero]
  · refine near_of_sq nonneg (sineAt_sq_of_low (j := 10) rfl) ?_ ?_ <;> norm_num [quarterSine] <;> linarith
  · refine near_of_between ?_ ?_ <;> norm_num [quarterSine] <;> linarith
  · refine near_of_sq nonneg (sineAt_sq_of_low (j := 6) rfl) ?_ ?_ <;> norm_num [quarterSine] <;> linarith
  · norm_num [quarterSine, sineAt_four]
  · refine near_of_sq nonneg (sineAt_sq_of_low (j := 2) rfl) ?_ ?_ <;> norm_num [quarterSine] <;> linarith
  · refine near_of_between ?_ ?_ <;> norm_num [quarterSine] <;> linarith
  · refine near_of_sq nonneg (sineAt_sq_of_high (j := 2) rfl) ?_ ?_ <;> norm_num [quarterSine] <;> linarith
  · refine near_of_between ?_ ?_ <;> norm_num [quarterSine] <;> linarith
  · refine near_of_sq nonneg (sineAt_sq_of_high (j := 6) rfl) ?_ ?_ <;> norm_num [quarterSine] <;> linarith
  · refine near_of_between ?_ ?_ <;> norm_num [quarterSine] <;> linarith
  · refine near_of_sq nonneg (sineAt_sq_of_high (j := 10) rfl) ?_ ?_ <;> norm_num [quarterSine] <;> linarith
  · norm_num [quarterSine, sineAt_twelve]

/-! ### The tone table (R105) -/

theorem quarterSine_le {k : ℕ} (quarter : k ≤ 12) : quarterSine.getD k 0 ≤ 10 ^ 20 := by
  interval_cases k <;> decide

theorem toneMagnitude_le {k : ℕ} (a : ℕ) (quarter : k ≤ 12) : toneMagnitude a k ≤ a := by
  have most := Nat.mul_le_mul_left (2 * a) (quarterSine_le quarter)
  rw [toneMagnitude]
  omega

/-- Rounding to the nearest whole number is off by a half at most. -/
theorem toneMagnitude_round (a k : ℕ) : |(toneMagnitude a k : ℝ) - a * ((quarterSine.getD k 0 : ℝ) / 10 ^ 20)| ≤ 1 / 2 := by
  rw [toneMagnitude]
  generalize quarterSine.getD k 0 = q
  have low := Nat.div_mul_le_self (2 * a * q + 100000000000000000000) 200000000000000000000
  have high := Nat.lt_div_mul_add (a := 2 * a * q + 100000000000000000000) (b := 200000000000000000000) (by decide)
  generalize (2 * a * q + 100000000000000000000) / 200000000000000000000 = m at low high ⊢
  have low' : (m : ℝ) * 200000000000000000000 ≤ 2 * a * q + 100000000000000000000 := by exact_mod_cast low
  have high' : (2 * a * q + 100000000000000000000 : ℝ) < m * 200000000000000000000 + 200000000000000000000 := by
    exact_mod_cast high
  exact abs_le.mpr ⟨by linarith, by linarith⟩

theorem toneMagnitude_near {a k : ℕ} (within : a ≤ 8388607) (quarter : k ≤ 12) :
    |(toneMagnitude a k : ℝ) - a * sineAt k| ≤ 1 / 2 + 1 / 10 ^ 12 := by
  have rounded := toneMagnitude_round a k
  have near := quarterSine_near quarter
  have amplitude : (a : ℝ) ≤ 8388607 := by exact_mod_cast within
  have scaled : |a * ((quarterSine.getD k 0 : ℝ) / 10 ^ 20) - a * sineAt k| ≤ 8388607 * (1 / 10 ^ 20) := by
    rw [← mul_sub, abs_mul, Nat.abs_cast]
    exact mul_le_mul amplitude near (abs_nonneg _) (by norm_num)
  calc |(toneMagnitude a k : ℝ) - a * sineAt k|
      ≤ |(toneMagnitude a k : ℝ) - a * ((quarterSine.getD k 0 : ℝ) / 10 ^ 20)| +
        |a * ((quarterSine.getD k 0 : ℝ) / 10 ^ 20) - a * sineAt k| := abs_sub_le _ _ _
    _ ≤ 1 / 2 + 8388607 * (1 / 10 ^ 20) := add_le_add rounded scaled
    _ ≤ 1 / 2 + 1 / 10 ^ 12 := by norm_num

theorem sineAt_mirror {k : ℕ} (half : k ≤ 24) : sineAt (24 - k) = sineAt k := by
  rw [sineAt, sineAt, ← Real.sin_pi_sub]
  congr 1
  push_cast [half]
  ring

theorem sineAt_add_half (k : ℕ) : sineAt (24 + k) = -sineAt k := by
  rw [sineAt, sineAt, ← Real.sin_add_pi]
  congr 1
  push_cast
  ring

/-- The entries of the first half turn rise to the twelfth and fall from it. -/
theorem toneEntry_half {k : ℕ} (a : ℕ) (half : k ≤ 24) :
    toneEntry a k = toneMagnitude a (if k ≤ 12 then k else 24 - k) := by
  unfold toneEntry
  rw [Nat.mod_eq_of_lt (by omega)]
  dsimp only
  split
  · rfl
  · rfl

theorem toneMagnitude_zero (a : ℕ) : toneMagnitude a 0 = 0 := by
  simp [toneMagnitude, quarterSine]

/-- The entries of the second half turn are those of the first with their sign turned. -/
theorem toneEntry_add_half {k : ℕ} (a : ℕ) (half : k < 24) : toneEntry a (24 + k) = -toneEntry a k := by
  rw [toneEntry_half a half.le]
  unfold toneEntry
  rw [Nat.mod_eq_of_lt (by omega)]
  dsimp only
  rw [if_neg (by omega)]
  rcases Nat.eq_zero_or_pos k with zero | pos
  · subst zero
    rw [if_pos (by omega), if_pos (by omega)]
    simp [toneMagnitude_zero]
  · rw [if_neg (by omega)]
    by_cases quarter : k ≤ 12
    · rw [if_pos (by omega), if_pos quarter, Nat.add_sub_cancel_left]
    · rw [if_neg (by omega), if_neg quarter, show 48 - (24 + k) = 24 - k by omega]

theorem toneEntry_bounds {a k : ℕ} (within : a ≤ 8388607) (turn : k < 48) : -(a : ℤ) ≤ toneEntry a k ∧ toneEntry a k ≤ a ∧
    |(toneEntry a k : ℝ) - a * sineAt k| ≤ 1 / 2 + 1 / 10 ^ 12 := by
  have first {j : ℕ} (half : j ≤ 24) : 0 ≤ toneEntry a j ∧ toneEntry a j ≤ a ∧
      |(toneEntry a j : ℝ) - a * sineAt j| ≤ 1 / 2 + 1 / 10 ^ 12 := by
    have quarter : (if j ≤ 12 then j else 24 - j) ≤ 12 := by split <;> omega
    have angle : sineAt (if j ≤ 12 then j else 24 - j) = sineAt j := by
      split
      · rfl
      · exact sineAt_mirror half
    have near := toneMagnitude_near within quarter
    rw [angle] at near
    rw [toneEntry_half a half]
    exact ⟨Int.natCast_nonneg _, Int.ofNat_le.mpr (toneMagnitude_le a quarter), by exact_mod_cast near⟩
  rcases Nat.lt_or_ge k 24 with half | half
  · obtain ⟨low, high, near⟩ := first half.le
    exact ⟨by omega, high, near⟩
  · obtain ⟨j, rfl⟩ := Nat.exists_eq_add_of_le half
    obtain ⟨low, high, near⟩ := first (j := j) (by omega)
    rw [toneEntry_add_half a (by omega), sineAt_add_half]
    refine ⟨by omega, by omega, ?_⟩
    rw [Int.cast_neg, mul_neg, neg_sub_neg, abs_sub_comm]
    exact near

theorem toneEntry_mirror {k : ℕ} (a : ℕ) (half : k ≤ 24) : toneEntry a (24 - k) = toneEntry a k := by
  rw [toneEntry_half a half, toneEntry_half a (Nat.sub_le 24 k)]
  congr 2
  split <;> split <;> omega

theorem toneEntry_quarters (a : ℕ) : toneEntry a 0 = 0 ∧ toneEntry a 12 = a ∧ toneEntry a 24 = 0 ∧
    toneEntry a 36 = -a ∧ toneEntry a 4 = ((a + 1) / 2 : ℕ) := by
  have zero : toneEntry a 0 = 0 := by rw [toneEntry_half a (by decide)]; simp [toneMagnitude_zero]
  have peak : toneEntry a 12 = a := by
    rw [toneEntry_half a (by decide)]
    simp only [toneMagnitude, quarterSine, le_refl, if_true, List.getD_cons_succ, List.getD_cons_zero]
    omega
  refine ⟨zero, peak, ?_, ?_, ?_⟩
  · rw [toneEntry_add_half (k := 0) a (by decide), zero]
    rfl
  · rw [toneEntry_add_half (k := 12) a (by decide), peak]
  · rw [toneEntry_half a (by decide)]
    simp only [toneMagnitude, quarterSine, Nat.reduceLeDiff, if_true, List.getD_cons_succ, List.getD_cons_zero]
    omega

theorem toneEntry_mod (a k : ℕ) : toneEntry a (k % 48) = toneEntry a k := by
  unfold toneEntry
  rw [Nat.mod_mod]

end

end Sys2Proof.Machine

namespace Sys2Proof.Machine

section
variable {s t u : State} {l : Lane} {b c : LaneBody} {r : Record} {rest : List Record}

/-! ### What every emitted frame carries (R90, R93, R101, R102, R109) -/

theorem onBody_of_some {x : State → LaneBody → State} (hb : s.body? l = some b) : s.onBody l x = x s b := by
  unfold State.onBody
  rw [hb]

theorem fitChannel_eq (n : Nat) (xs : List Sample) : fitChannel n xs =
    if n < xs.length then xs.take n else xs ++ List.replicate (n - xs.length) (xs.getLastD 0) := by
  unfold fitChannel
  split
  · next long => rw [Nat.sub_eq_zero_of_le long.le, List.replicate_zero, List.append_nil]
  · next short =>
    refine List.take_of_length_le ?_
    rw [List.length_append, List.length_replicate]
    omega

theorem fitBlock_eq (c n : Nat) (block : List (List Sample)) : fitBlock c n block =
    (List.range c).map fun i =>
      let xs := block.getD i []
      if n < xs.length then xs.take n else xs ++ List.replicate (n - xs.length) (xs.getLastD 0) := by
  unfold fitBlock
  simp only [fitChannel_eq]

theorem holdVideo_eq (b : LaneBody) : b.holdVideo =
    match b.play.hold with
    | none => []
    | some h => videoPages b.fmt.vclass h.pages := by
  unfold LaneBody.holdVideo
  cases b.play.hold with
  | none => cases b.fmt.vclass <;> rfl
  | some h => rfl

theorem holdPicture_eq (b : LaneBody) : b.holdPicture =
    match b.play.hold with
    | none => .black
    | some h => h.picture := by
  unfold LaneBody.holdPicture
  cases b.play.hold <;> rfl

theorem repeatAudio_eq (b : LaneBody) : b.repeatAudio =
    match b.play.lastBlock with
    | none => silence b.fmt.channels.toNat b.required
    | some block => fitBlock b.fmt.channels.toNat b.required block := rfl

theorem State.readPages_eta (s : State) (ps : List PageNo) :
    s.readPages ps = { s with store := (s.readPages ps).store, link := (s.readPages ps).link } := by
  exact (readPages_keeps (fun u => ({ u with store := (s.readPages ps).store, link := (s.readPages ps).link } : State))
    (fun u k e => by rw [State.readErr_eq]) ps s)

theorem emitRepeat_eq (s : State) (l : Lane) (b : LaneBody) : s.emitRepeat l b =
    (s.readPages (match b.play.hold with | none => [] | some h => videoPages b.fmt.vclass h.pages)).setBody l
      (some (b.emit (match b.play.hold with | none => .black | some h => h.picture)
        (match b.play.lastBlock with
          | none => List.replicate b.fmt.channels.toNat (List.replicate b.required 0)
          | some block => (List.range b.fmt.channels.toNat).map fun i =>
            let xs := block.getD i []
            if b.required < xs.length then xs.take b.required
            else xs ++ List.replicate (b.required - xs.length) (xs.getLastD 0)) [] b.play.prevLevel)) := by
  unfold State.emitRepeat LaneBody.repeatAudio
  rw [holdVideo_eq, holdPicture_eq]
  cases b.play.lastBlock with
  | none => rfl
  | some block =>
    dsimp only
    rw [fitBlock_eq]

/-! ### What a departing record's readout finds (R95, R96) -/

/-- Whether the video of a record reads uncorrectable (R95). -/
def Store.videoBad (st : Store) (c : VideoClass) (r : Record) : Bool :=
  decide (r.origin = .received) && (videoPages c r.pages).any st.pageBad

/-- Whether the audio/packet page of a record reads uncorrectable (R96). -/
def Store.audioBad (st : Store) (c : VideoClass) (r : Record) : Bool :=
  decide (r.origin = .received) && (r.pages.drop (videoPages c r.pages).length).any st.pageBad

/-- The damage of a video and of an audio page (R95, R96). -/
def damageBy : Bool → Bool → Option Damage
  | false, false => none
  | true, false => some .video
  | false, true => some .audio
  | true, true => some .both

theorem damageOf_eq (st : Store) (c : VideoClass) (r : Record) :
    st.damageOf c r = damageBy (st.videoBad c r) (st.audioBad c r) := by
  unfold Store.damageOf Store.videoBad Store.audioBad audioPages
  cases r.origin with
  | fill => rfl
  | received =>
    simp only [decide_true, Bool.true_and]
    cases (videoPages c r.pages).any st.pageBad <;>
      cases (r.pages.drop (videoPages c r.pages).length).any st.pageBad <;> rfl

theorem videoDamaged_damageBy (v a : Bool) : videoDamaged (damageBy v a) = v := by
  cases v <;> cases a <;> rfl

theorem audioDamaged_damageBy (v a : Bool) : audioDamaged (damageBy v a) = a := by
  cases v <;> cases a <;> rfl

/-! ### A departure (R75, R91, R98) -/

theorem count_when (s : State) (l : Lane) (k : Counter) (n : Nat) (p : Prop) [Decidable p] :
    (if p ∧ 0 < n then s.count l k n else s) = s.count l k (if p then n else 0) := by
  have idle : s.count l k 0 = s := by
    unfold State.count LaneCounters.add
    cases k <;> simp only [satAdd_zero] <;> exact congrArg (fun v => ({ s with lanes := v } : State)) (PerLane.set_get _ _)
  by_cases holds : p
  · rw [if_pos holds]
    rcases Nat.eq_zero_or_pos n with zero | pos
    · rw [if_neg (by omega), zero, idle]
    · rw [if_pos ⟨holds, pos⟩]
  · rw [if_neg (fun both => holds both.1), if_neg holds, idle]

/-- The notice of a damaged departure (R96). -/
def damagePosts (l : Lane) (r : Record) : Option Damage → List (Option Lane × Detail)
  | none => []
  | some d => [(some l, .damaged r.seq d)]

/-- The counts of a departure (R96). -/
def LaneCounters.departing (x : LaneCounters) (lost : Nat) (d : Option Damage) : LaneCounters :=
  { x with ancLost := satAdd 65535 x.ancLost lost, damaged := satAdd 65535 x.damaged (if d.isSome then 1 else 0) }

theorem depart_eq (head : b.dl.records = r :: rest) (s : State) (l : Lane) :
    let d := s.store.damageOf b.fmt.vclass r
    let read := s.readPages (b.departureReads r d)
    let lost := if audioDamaged d then r.carriedPrefix.length + r.own.length else 0
    s.depart l b = { s with
      lanes := s.lanes.set l
        { body := some (b.departed r rest d), counters := (s.lanes.get l).counters.departing lost d }
      store := read.store.giveBack l (b.departureFrees r d)
      link := (read.postAll (damagePosts l r d)).link } := by
  unfold State.depart
  rw [head]
  dsimp only
  rw [count_when, State.readPages_eta]
  cases s.store.damageOf b.fmt.vclass r with
  | none => 
    simp [State.count, State.setBody, State.freePages, LaneCounters.add, LaneCounters.departing, damagePosts, State.postAll]
  | some d => 
    simp [State.count, State.setBody, State.freePages, LaneCounters.add, LaneCounters.departing, damagePosts, State.postAll, State.post, State.postOn]

/-! ### The audio of a departing record (R97, R104, R105) -/

/-- A covered channel's fill, or its samples where the fill does not reach it (R104, R105). -/
def LaneBody.coverChannel (b : LaneBody) (r : Record) (i : Nat) (xs : List Sample) : List Sample :=
  if b.fills r = true ∧ b.play.fill.mask.getLsbD i = true then
    (List.range b.required).map fun j => match b.play.fill.kind with
      | .silence => 0
      | .tone => BitVec.ofInt 24 (toneEntry b.play.fill.amplitude ((b.toneStart + j) % 48))
  else xs

theorem fillSamples_eq (b : LaneBody) (n : Nat) : b.fillSamples n =
    (List.range n).map fun j => match b.play.fill.kind with
      | .silence => 0
      | .tone => BitVec.ofInt 24 (toneEntry b.play.fill.amplitude ((b.toneStart + j) % 48)) := by
  unfold LaneBody.fillSamples
  cases b.play.fill.kind with
  | silence => simp
  | tone => simp only [toneEntry_mod]

theorem applyFill_eq (b : LaneBody) (r : Record) (block : List (List Sample)) :
    (if b.fills r then b.applyFill block else block) = block.mapIdx (b.coverChannel r) := by
  unfold LaneBody.applyFill LaneBody.coverChannel
  rw [fillSamples_eq]
  cases b.fills r with
  | true => simp
  | false => exact List.ext_getElem (by simp) (by simp)

theorem recordAudio_eq (b : LaneBody) (r : Record) (d : Option Damage) : b.recordAudio r d =
    (List.range b.fmt.channels.toNat).map fun i =>
      let stored := if r.origin = .fill ∨ r.audioState = .malformed ∨ audioDamaged d then
        List.replicate b.fmt.channels.toNat (List.replicate r.samples 0) else r.audio
      let xs := stored.getD i []
      if b.required < xs.length then xs.take b.required
      else xs ++ List.replicate (b.required - xs.length) (xs.getLastD 0) := by
  unfold LaneBody.recordAudio
  rw [fitBlock_eq]
  rfl

/-- The lane after a departure, by the parts of the frame emitted. -/
theorem departed_eq {d : Option Damage} {video : Picture} {audio : List (List Sample)} {packets : List (PacketType × List Byte)}
    {level : Nat} {held : Bool} (rest : List Record) (pictures : b.departurePicture r d = video)
    (audios : (if b.fills r then b.applyFill (b.recordAudio r d) else b.recordAudio r d) = audio)
    (sent : (if audioDamaged d then [] else r.outPackets) = packets) (levels : b.departureLevel r d = level)
    (holds : becomesHold r d = held) :
    let e := b.emit video audio packets level
    b.departed r rest d = { e with
      dl := { e.dl with records := rest, mark := markAfter b.dl.mark [r.seq] .aired }
      play := { e.play with
        hold := if held then some { r with damage := d, carryCopy := [] } else b.play.hold
        fillRun := b.fills r
        tonePhase := if b.fills r then (b.toneStart + b.required) % 48 else b.play.tonePhase } } := by
  subst pictures audios sent levels holds
  rfl

theorem ite_fill {α : Type} (o : Origin) (x y : α) :
    (if o = .fill then x else y) = if decide (o = .received) then y else x := by
  cases o <;> rfl

theorem State.skipHead_eq (head : b.dl.records = r :: rest) (s : State) (l : Lane) : s.skipHead l b =
    { s with
      lanes := s.lanes.set l
        { body := some { b with
            dl.records := rest
            dl.departing := r.carryCopy.take (32 - b.dl.departing.length) ++ b.dl.departing
            dl.mark := markLeaves b.dl.mark [r.seq] .removed }
          counters := (s.lanes.get l).counters.lose (r.carryCopy.drop (32 - b.dl.departing.length)) }
      store := s.store.giveBack l r.pages
      link := (s.postAll (lostPosts l true (r.carryCopy.drop (32 - b.dl.departing.length)))).link } := by
  unfold State.skipHead
  rw [head]
  exact State.giveUp_eq _ _ _ _ _ _

end

end Sys2Proof.Machine

section
open Sys2Proof Sys2Proof.Machine

/-- Settles O54, from the tone table's entries, the frame of each action and the head that leaves. -/
theorem ticksEmitTheFrameOfTheirAction : Obligations.TicksEmitTheFrameOfTheirAction := by
  refine ⟨fun a within => ⟨fun k turn => toneEntry_bounds within turn, ?_⟩, fun s l b hb => ?_⟩
  · obtain ⟨zero, peak, half, trough, fourth⟩ := toneEntry_quarters a
    exact ⟨zero, peak, half, trough, fourth, fun k => toneEntry_mirror a, fun k => toneEntry_add_half a⟩
  intro channels n hold fitted fit picture holdPages sent emit repeated
  have again : s.emitRepeat l b = repeated := emitRepeat_eq s l b
  refine ⟨(onBody_of_some (x := fun s b => s.emitRepeat l b) hb).trans again, fun empty => ?_, fun r rest head => ?_, fun r rest head => ?_, rfl, rfl⟩
  · intro k count slot
    have counters : (repeated.lanes.get l).counters = k := by
      unfold repeated
      rw [State.counters_setBody, State.readPages_lanes]
    have idle : s.emission l .nothing = s.underrun l b := by
      refine (onBody_of_some (x := fun s b => s.depart l b) hb).trans ?_
      unfold State.depart
      rw [empty]
    have slotted : ({ repeated.lanes.get l with counters := (repeated.lanes.get l).counters.add .underrun 1 } : LaneSlot) =
        slot := by
      rw [counters]
      rfl
    rw [idle, State.underrun, again, State.count, slotted]
    dsimp only
    rw [PerLane.get_set_self]
  · intro received videoBad audioBad damage named fills tone fillLevel cover stored packets reads held freed e lane k read t
    have damaged : s.store.damageOf b.fmt.vclass r = damage := damageOf_eq _ _ _
    have video : videoDamaged damage = videoBad := videoDamaged_damageBy _ _
    have sound : audioDamaged damage = audioBad := audioDamaged_damageBy _ _
    have filled : fills = b.fills r := congrArg (fun x => r.covered && x) (fillNames_eq b).symm
    have holds : becomesHold r damage = held := by
      unfold becomesHold
      rw [video, beq_eq_decide]
    have shown : b.holdPicture = picture := holdPicture_eq b
    have kept : b.holdVideo = holdPages := holdVideo_eq b
    have pictures : b.departurePicture r damage = if received then if videoBad then picture else r.picture else .black := by
      unfold LaneBody.departurePicture
      rw [video, shown]
      exact ite_fill r.origin _ _
    have reading : b.departureReads r damage = reads := by
      unfold LaneBody.departureReads
      rw [video, kept]
      exact ite_fill r.origin _ _
    have freeing : b.departureFrees r damage = freed := by
      unfold LaneBody.departureFrees
      rw [holds]
    have silent : (r.origin = .fill ∨ r.audioState = .malformed ∨ audioDamaged damage = true) ↔
        (received = false ∨ r.audioState = .malformed ∨ audioBad = true) := by
      rw [sound]
      refine or_congr_left ?_
      unfold received
      cases r.origin <;> simp
    have audios : (if b.fills r then b.applyFill (b.recordAudio r damage) else b.recordAudio r damage) =
        (fit stored).mapIdx cover := by
      rw [applyFill_eq, recordAudio_eq]
      simp only [silent]
      unfold LaneBody.coverChannel
      rw [← filled]
      rfl
    have sending : (if audioDamaged damage then [] else r.outPackets) = packets := by
      rw [sound]
      rfl
    have levels : b.departureLevel r damage = if fills then fillLevel else if audioBad then 0 else r.level := by
      unfold LaneBody.departureLevel
      rw [sound, ← filled]
      rfl
    have leaves : b.departed r rest damage = lane := by
      rw [departed_eq rest pictures audios sending levels holds, ← filled]
      rfl
    have whole : t = _ := (onBody_of_some (x := fun s b => s.depart l b) hb).trans (depart_eq head s l)
    rw [damaged, reading, freeing, leaves, sound] at whole
    refine ⟨?_, ?_, fun j other => ?_, ?_, ?_, ?_⟩
    all_goals rw [whole]
    · rw [State.body?, PerLane.get_set_self]
    · rw [PerLane.get_set_self]
      rfl
    · exact PerLane.get_set_ne _ _ other
    · unfold damagePosts
      cases damage <;> rfl
  · intro room lost
    have skipped := State.skipHead_eq head s l
    refine ⟨s.skipHead l b, ?_, ?_, ?_, fun j other => ?_, ?_, ?_, ?_⟩
    · exact congrArg (fun u => State.onBody u l fun s b => s.depart l b) (onBody_of_some hb)
    all_goals rw [skipped]
    · rw [State.body?, PerLane.get_set_self]
      rfl
    · rw [PerLane.get_set_self]
    · exact PerLane.get_set_ne _ _ other

end

namespace Sys2Proof.Machine

section
variable {s t u : State} {p : Port} {r : Request} {l : Lane} {b : LaneBody} {i : Fin 16} {x y : InLine} {g : GroupId} {closed : Bool}

/-! ### A group's lanes and members (R153 to R156) -/

theorem maskLanes_eq (mask : BitVec 4) : maskLanes mask = [Lane.l1, .l2, .l3, .l4].filter fun l =>
    mask.getLsbD (match l with | .l1 => 0 | .l2 => 1 | .l3 => 2 | .l4 => 3) := by
  unfold maskLanes
  refine congrArg (fun names => List.filter names allLanes) (funext fun l => ?_)
  cases l <;> rfl

/-- A line's group is held elsewhere: another of its members is active (R156). -/
def Panel.HeldElsewhere (q : Panel) (i : Fin 16) (x : InLine) : Prop :=
  ∃ j, j ≠ i ∧ (q.inputs.get j).func = x.func ∧ (q.inputs.get j).mask = x.mask ∧ (q.inputs.get j).level = true

theorem group_eq_some_iff (bound : x.func ≠ .unbound) :
    y.group = some { func := x.func, mask := x.mask } ↔ y.func = x.func ∧ y.mask = x.mask := by
  unfold InLine.group
  split
  · next free => exact iff_of_false (by simp) fun same => bound (same.1 ▸ free)
  · simp

theorem anyActive_elsewhere (bound : x.func ≠ .unbound) (own : ¬y.Activates { func := x.func, mask := x.mask }) :
    (s.setInput i y).panel.anyActive { func := x.func, mask := x.mask } = true ↔ s.panel.HeldElsewhere i x := by
  rw [Panel.anyActive_iff]
  refine exists_congr fun j => ?_
  by_cases same : j = i
  · subst same
    rw [State.inputs_setInput_self]
    exact iff_of_false own fun held => held.1 rfl
  · rw [State.inputs_setInput_ne same, InLine.Activates, group_eq_some_iff bound, and_assoc]
    exact (and_iff_right same).symm

/-! ### A group re-armed (R156) -/

/-- PANEL taken from a lane that a group reaches (R156). -/
def State.uncoverReached (u : State) (l : Lane) : State :=
  match u.body? l with
  | none => u
  | some b => if b.link.isSome then u else u.removeSource l .panel

theorem rearmGroup_eq (s : State) (g : GroupId) : s.rearmGroup g =
    let v := { s with panel := { s.panel with fired := s.panel.fired.filter (· != g) } }
    if g.func = .cover then (maskLanes g.mask).foldl State.uncoverReached v else v := rfl

/-- Operations one after another that do not look at the panel run alike under any panel. -/
theorem foldl_withPanel {op : State → Lane → State} {q : Panel}
    (blind : ∀ (u : State) f, op { u with panel := q } f = { op u f with panel := q }) (fs : List Lane) (u : State) :
    fs.foldl op { u with panel := q } = { fs.foldl op u with panel := q } := by
  induction fs generalizing u with
  | nil => rfl
  | cons f fs ih => rw [List.foldl_cons, List.foldl_cons, blind, ih]

theorem removeSource_withPanel (u : State) (l : Lane) (src : CoverSource) (q : Panel) :
    ({ u with panel := q } : State).removeSource l src = { u.removeSource l src with panel := q } := by
  have fold := foldl_withPanel (q := q) (op := fun u f => u.modBody f (·.uncover .leader)) (fun _ _ => rfl) (u.followersOf l)
    (u.modBody l (·.uncover src))
  by_cases empties : (u.covering l && !(u.modBody l (·.uncover src)).covering l) = true
  · have there : u.removeSource l src = _ := if_pos empties
    rw [there]
    exact (if_pos empties).trans fold
  · have there : u.removeSource l src = _ := if_neg empties
    rw [there]
    exact if_neg empties

theorem uncoverReached_withPanel (u : State) (l : Lane) (q : Panel) :
    ({ u with panel := q } : State).uncoverReached l = { u.uncoverReached l with panel := q } := by
  unfold State.uncoverReached
  change (match u.body? l with | none => _ | some b => _) = _
  cases u.body? l with
  | none => rfl
  | some b =>
    dsimp only
    split
    · rfl
    · exact removeSource_withPanel u l .panel q

theorem rearmGroup_setInput (s : State) (g : GroupId) (i : Fin 16) (x : InLine) :
    (s.setInput i x).rearmGroup g = (s.rearmGroup g).setInput i x := by
  have panel := State.rearmGroup_panel s g
  unfold State.setInput
  rw [panel]
  rw [rearmGroup_eq, rearmGroup_eq]
  dsimp only
  split
  · exact foldl_withPanel (fun u f => uncoverReached_withPanel u f _) _
      { s with panel := { s.panel with fired := s.panel.fired.filter (· != g) } }
  · rfl

/-! ### PANEL_LOCK on and PANEL_BIND_IN (R157, R158) -/

/-- A group re-armed, its lanes named by its mask's bits (R156). -/
def State.rearmed (u : State) (g : GroupId) : State :=
  let v := { u with panel := { u.panel with fired := u.panel.fired.filter (· != g) } }
  if g.func = .cover then
    ([Lane.l1, .l2, .l3, .l4].filter fun l =>
      g.mask.getLsbD (match l with | .l1 => 0 | .l2 => 1 | .l3 => 2 | .l4 => 3)).foldl State.uncoverReached v
  else v

theorem rearmGroup_eq_rearmed : State.rearmGroup = State.rearmed := by
  funext s g
  rw [rearmGroup_eq, maskLanes_eq]
  rfl

theorem lockOn_eq (u : State) : u.lockOn =
    if u.panel.lockout then u
    else
      let quiet := u.panel.inputs.map fun x => { x with level := false, count := 0 }
      let v := u.panel.fired.foldl State.rearmed { u with panel := { u.panel with inputs := quiet } }
      { v with panel := { v.panel with lockout := true } } := by
  rw [← rearmGroup_eq_rearmed]
  rfl

theorem exec_panelLockOn (asks : Asks s p r 0x0A [1]) :
    exec .panelLockOn s = .next (served s p r State.lockOn .ok [1]) := by
  obtain ⟨_, _, code, body⟩ := id asks
  refine congrArg Host.Outcome.next (State.execute_asks asks (hasForm_of_body code ?_) rfl rfl)
  rw [body]
  show some (1 : Byte) ≠ some 0
  decide

theorem inFuncOf_inFuncNo (f : InFunc) : inFuncOf (BitVec.ofNat 8 (inFuncNo f)) = some f := by
  cases f <;> decide

theorem laneMaskOf_laneMaskByte (mask : BitVec 4) : laneMaskOf (BitVec.ofNat 8 mask.toNat) = some mask := by
  revert mask
  decide

/-- The binding that PANEL_BIND_IN gives a line (R157). -/
def boundLine (func : InFunc) (mask : BitVec 4) (inverted : Bool) (n : Nat) : InLine :=
  { func := func, mask := mask, inverted := inverted, length := max 1 (min n 32), level := false, count := 0 }

theorem exec_panelBindIn {func : InFunc} {mask : BitVec 4} {inverted : Bool} {n : Byte}
    (asks : Asks s p r 0x0B [lineByte i, BitVec.ofNat 8 (inFuncNo func), BitVec.ofNat 8 mask.toNat, boolByte inverted, n]) :
    exec .panelBindIn s = .next (served s p r
      (fun u => (u.leaveGroup i).setInput i (boundLine func mask inverted n.toNat))
      (if max 1 (min n.toNat 32) = n.toNat then .ok else .clamped)
      [lineByte i, BitVec.ofNat 8 (inFuncNo func), BitVec.ofNat 8 mask.toNat, boolByte inverted,
        BitVec.ofNat 8 (max 1 (min n.toNat 32))]) := by
  obtain ⟨_, _, code, body⟩ := id asks
  refine congrArg Host.Outcome.next (State.execute_asks asks (hasCode_of_code code) rfl ?_)
  unfold bindInMessage
  dsimp only
  rw [lineOf_lineByte, inFuncOf_inFuncNo, laneMaskOf_laneMaskByte, boolOf_boolByte]
  dsimp only
  unfold State.bindIn Answer.applied boundLine
  by_cases same : max 1 (min n.toNat 32) = n.toNat
  · simp [same, laneMaskByte]
  · simp [same, laneMaskByte]

theorem group_of_inputs (bound : (s.panel.inputs.get i).func ≠ .unbound) : (s.panel.inputs.get i).group =
    some { func := (s.panel.inputs.get i).func, mask := (s.panel.inputs.get i).mask } := InLine.group_of_bound bound

/-- A line leaves its group, which is re-armed where no other member of it is active (R157). -/
theorem leaveGroup_setInput (s : State) (i : Fin 16) (y : InLine) :
    let x := s.panel.inputs.get i
    let old : GroupId := { func := x.func, mask := x.mask }
    (x.func ≠ .unbound ∧ old ∈ s.panel.fired ∧ ¬s.panel.HeldElsewhere i x →
      (s.leaveGroup i).setInput i y = (s.rearmed old).setInput i y) ∧
    (¬(x.func ≠ .unbound ∧ old ∈ s.panel.fired ∧ ¬s.panel.HeldElsewhere i x) →
      (s.leaveGroup i).setInput i y = s.setInput i y) := by
  intro x old
  unfold State.leaveGroup
  by_cases bound : x.func ≠ .unbound
  · have elsewhere := anyActive_elsewhere (s := s) (i := i) (y := { x with func := .unbound }) bound
      (fun active => by simp [InLine.Activates, InLine.group] at active)
    rw [InLine.group_of_bound bound]
    dsimp only
    have asked : (s.panel.isFired old && !(s.setInput i { x with func := .unbound }).panel.anyActive old) = true ↔
        old ∈ s.panel.fired ∧ ¬s.panel.HeldElsewhere i x := by
      rw [Bool.and_eq_true, Panel.isFired_iff, Bool.not_eq_true', ← elsewhere, Bool.not_eq_true]
    refine ⟨fun ⟨_, fired, alone⟩ => ?_, fun other => ?_⟩
    · rw [if_pos (asked.mpr ⟨fired, alone⟩), rearmGroup_setInput, State.setInput_setInput, rearmGroup_eq_rearmed]
    · rw [if_neg fun holds => other ⟨bound, asked.mp holds⟩, State.setInput_setInput]
  · have free : x.group = none := if_pos (not_not.mp bound)
    rw [free]
    exact ⟨fun holds => absurd holds.1 bound, fun _ => rfl⟩

end

end Sys2Proof.Machine

section
open Sys2Proof Sys2Proof.Machine

/-- Settles O59, from a group re-armed and, for a binding, by whether the line's old group is re-armed. -/
theorem lockoutAndBindingRearmGroups : Obligations.LockoutAndBindingRearmGroups := by
  intro s p r
  refine ⟨fun asks => ?_, fun i func mask inverted n => ?_⟩
  · refine (exec_panelLockOn asks).trans ?_
    exact congrArg (fun effect => Host.Outcome.next (served s p r effect .ok [1])) (funext lockOn_eq)
  · intro length reply asks x old heldElsewhere bound bind result body
    have run := exec_panelBindIn asks
    obtain ⟨rearms, leaves⟩ := leaveGroup_setInput (s.takeRequest p) i bound
    refine ⟨fun holds => run.trans ?_, fun other => run.trans ?_⟩
    · exact congrArg (fun u => Host.Outcome.next (State.reply u p r { result := result, body := body })) (rearms holds)
    · exact congrArg (fun u => Host.Outcome.next (State.reply u p r { result := result, body := body })) (leaves other)

end

namespace Sys2Proof.Machine

section
variable {s t u : State} {p : Port} {r : Request} {l : Lane} {b : LaneBody} {i : Fin 16} {x y : InLine} {g : GroupId} {closed : Bool}

/-! ### Samples and edges (R152, R154, R155) -/

theorem edges_iff : x.edges closed = true ↔ x.logical closed ≠ x.level ∧ x.length ≤ x.count + 1 := by
  simp [InLine.edges]

/-- A group's function acts on one lane of its mask (R16, R155). -/
def State.actOn (func : InFunc) (u : State) (l : Lane) : State :=
  match func with
  | .unbound => u
  | .dump => (u.dump l).1
  | .cover => u.addSource l .panel
  | .mark => (u.setMark l).1
  | .cutToMark => (u.cutToMark l).1
  | .enter => (u.enter l .panel).1
  | .exit => (u.exitGentle l .panel).1

theorem panelAction_eq (u : State) (func : InFunc) (l : Lane) : u.panelAction func l = u.onReached l (State.actOn func) := rfl

theorem fireGroup_eq (s : State) (g : GroupId) (i : Fin 16) : s.fireGroup g i =
    ((maskLanes g.mask).foldl (fun (u : State) l => u.onReached l (State.actOn g.func))
      { s with panel := { s.panel with fired := s.panel.fired ++ [g] } }).post none (.panelEvent i g.func g.mask) := rfl

theorem exec_panelSample (unlocked : s.panel.lockout = false) :
    exec (.panelSample i closed) s = .next (s.sampleLine i closed) := exec_panelSample_unlocked unlocked i closed

theorem exec_panelEdge (unlocked : s.panel.lockout = false) : exec (.panelEdge i closed) s =
    .next (if (s.panel.inputs.get i).edges closed then s.sampleLine i closed else s) := by
  show execPanelEdge i closed s = _
  unfold execPanelEdge
  rw [unlocked]
  rfl

theorem sampleLine_of_edge (edge : (s.panel.inputs.get i).edges closed = true) :
    let x := s.panel.inputs.get i
    s.sampleLine i closed = (s.setInput i { x with level := x.logical closed, count := 0 }).takeEdge i (x.logical closed) :=
  (if_neg (edges_iff.mp edge).1).trans (if_pos edge)

theorem onReached_eq (u : State) (l : Lane) (f : State → Lane → State) : u.onReached l f =
    match u.body? l with
    | none => u
    | some b => if b.link.isSome then u else f u l := rfl

theorem exec_laneMark {result : Result} {answer : List Byte} (asks : Asks s p r 0x2B [laneByte (some l)])
    (handled : (s.takeRequest p).setMark l = (u, { result := result, body := answer })) :
    exec .laneMark s = .next (u.reply p r { result := result, body := answer }) := by
  obtain ⟨_, _, code, _⟩ := id asks
  exact congrArg Host.Outcome.next (State.execute_asks (effect := fun _ => u) asks (hasCode_of_code code) rfl
    ((laneMessage_apply _ _ p l).trans handled))

theorem takeEdge_of_free (free : (s.panel.inputs.get i).func = .unbound) (active : Bool) : s.takeEdge i active = s := by
  have none_held : (s.panel.inputs.get i).group = none := if_pos free
  unfold State.takeEdge
  rw [none_held]

theorem takeEdge_of_bound (bound : (s.panel.inputs.get i).func ≠ .unbound) (active : Bool) :
    let g : GroupId := { func := (s.panel.inputs.get i).func, mask := (s.panel.inputs.get i).mask }
    s.takeEdge i active =
      if active then if s.panel.isFired g then s else s.fireGroup g i
      else if s.panel.isFired g && !s.panel.anyActive g then s.rearmGroup g
      else s := by
  unfold State.takeEdge
  rw [InLine.group_of_bound bound]

end

end Sys2Proof.Machine

section
open Sys2Proof Sys2Proof.Machine

/-- Settles O57, by whether a sample makes an edge and by the standing of the line's group. -/
theorem panelSamplesFireGroups : Obligations.PanelSamplesFireGroups := by
  intro s i closed x active line changes turned g reached lanes action heldElsewhere setFired
  refine ⟨fun locked => ?_, fun unlocked => ⟨fun same => ?_, fun differs short => ?_, fun short => ?_, fun edge c hc => ?_⟩,
    fun p r l free configured => ⟨fun asks => ?_, fun asks => ?_, fun asks => ?_, fun asks => ?_, fun asks => ?_⟩⟩
  · exact ⟨congrArg Host.Outcome.next (if_pos locked), congrArg Host.Outcome.next (if_neg (by simp [locked]))⟩
  · rw [exec_panelSample unlocked]
    exact congrArg Host.Outcome.next (if_pos same)
  · rw [exec_panelSample unlocked]
    exact congrArg Host.Outcome.next ((if_neg differs).trans (if_neg fun edge => short (edges_iff.mp edge)))
  · rw [exec_panelEdge unlocked]
    exact congrArg Host.Outcome.next (if_neg fun edge => short (edges_iff.mp edge))
  · have makes : (s.panel.inputs.get i).edges closed = true := edges_iff.mpr edge
    have own : turned.panel.inputs.get i = { x with level := active, count := 0 } := State.inputs_setInput_self s i _
    have run : exec c s = .next (turned.takeEdge i active) := by
      rw [List.mem_cons, List.mem_singleton] at hc
      rcases hc with rfl | rfl
      · rw [exec_panelSample unlocked, sampleLine_of_edge makes]
        rfl
      · rw [exec_panelEdge unlocked, if_pos makes, sampleLine_of_edge makes]
        rfl
    have taken (bound : x.func ≠ .unbound) : turned.takeEdge i active =
        if active then if turned.panel.isFired g then turned else turned.fireGroup g i
        else if turned.panel.isFired g && !turned.panel.anyActive g then turned.rearmGroup g
        else turned := by
      have step := takeEdge_of_bound (s := turned) (i := i) (by rw [own]; exact bound) active
      rw [own] at step
      exact step
    have fires : turned.panel.isFired g = true ↔ g ∈ s.panel.fired := Panel.isFired_iff turned.panel g
    refine ⟨fun idle => ?_, fun bound pressed armed => ?_, fun bound released stays => ?_, fun bound released fired alone => ?_⟩
    · refine run.trans (congrArg Host.Outcome.next ?_)
      by_cases bound : x.func = .unbound
      · exact takeEdge_of_free (by rw [own]; exact bound) active
      · obtain ⟨pressed, fired⟩ := idle.resolve_left bound
        rw [taken bound, if_pos pressed, if_pos (fires.mpr fired)]
    · rw [run, taken bound, if_pos pressed, if_neg fun fired => armed (fires.mp fired), fireGroup_eq, maskLanes_eq]
      rfl
    all_goals
      have asked : (turned.panel.isFired g && !turned.panel.anyActive g) = true ↔ g ∈ s.panel.fired ∧ ¬heldElsewhere := by
        have elsewhere := anyActive_elsewhere (s := s) (i := i) (x := x) (y := { x with level := active, count := 0 }) bound
          fun own => by simp [InLine.Activates, released] at own
        rw [Bool.and_eq_true, fires, Bool.not_eq_true', ← Bool.not_eq_true]
        exact and_congr_right fun _ => not_congr elsewhere
    · have keeps : ¬(g ∈ s.panel.fired ∧ ¬heldElsewhere) := fun both => stays.elim (absurd both.1) both.2
      rw [run, taken bound, if_neg (by simp [released]), if_neg fun holds => keeps (asked.mp holds)]
    · rw [run, taken bound, if_neg (by simp [released]), if_pos (asked.mpr ⟨fired, alone⟩), rearmGroup_eq_rearmed]
      rfl
  · exact exec_laneDump asks rfl
  · exact exec_laneMark asks rfl
  · exact exec_laneCutToMark asks rfl
  · exact exec_laneEnter (effect := fun u => (u.enter l .message).1) asks rfl
  · exact exec_laneExitGentle (effect := fun u => (u.exitGentle l .message).1) asks rfl

end
